-- ==== Sys2Proof/Word.lean ====
section
/-! DEFINITION. Word.lean: the bit widths the spec gives its values (00_scope.md R6, R8) and the three index sets
every later file speaks of: switches, frequency channels, sampled inputs, chip registers. -/

namespace Sys2Proof

/-- A byte of the chip bus, the settings byte or the LED output (`DATA_W`, R6). -/
abbrev Byte := BitVec 8

/-- One converter sample, 0 to 1023 (`SAMPLE_W`, R6). -/
abbrev Sample := BitVec 10

/-- A multiplexer channel id on the four select lines (`SEL_W`, R6, R61). -/
abbrev ChannelId := BitVec 4

/-- A chip register address (`ADDR_W`, R6). -/
abbrev ChipAddr := BitVec 5

/-- A frequency value, an entry of the table (`FREQ_W`, R6). -/
abbrev FreqValue := BitVec 16

/-- A pulse width (`PW_W`, R6). -/
abbrev PulseWidth := BitVec 12

/-- A resonance (`RES_W`, R6). -/
abbrev Resonance := BitVec 4

/-- The number the sequencer holds (format `PH`, R64). -/
abbrev Phase := BitVec 5

/-- A mask over the three switches: bit 0 FILTER, bit 1 WAVEFORM, bit 2 RINGSYNC (R81). -/
abbrev SwitchBits := BitVec 3

/-- The three switches (`N_SW`, R6), written `F`, `W`, `R` in the rules (R8). -/
inductive Switch where
  | filter
  | waveform
  | ringsync
deriving DecidableEq, Repr

/-- The three frequency-bearing inputs, `k` = 1, 2, 3 of R152. -/
inductive FreqCh where
  | one
  | two
  | three
deriving DecidableEq, Repr

/-- The eleven sampled inputs in the order of the sample registers `x[0]` to `x[10]`, under the aliases of R11. -/
inductive Input where
  | sF | sW | sR | aWF | aRS | aF1 | aF2 | aF3 | aPW | aFC | aRES
deriving DecidableEq, Repr

/-- One value for each of the eleven sampled inputs: the sample register file (R11) and the channel assignment (R41). -/
structure PerInput (α : Type) where
  sF : α
  sW : α
  sR : α
  aWF : α
  aRS : α
  aF1 : α
  aF2 : α
  aF3 : α
  aPW : α
  aFC : α
  aRES : α
deriving DecidableEq, Repr

/-- The fourteen chip registers the block writes, by the names of their address parameters `A_*` (R43). -/
inductive ChipReg where
  | f1lo | f1hi | pwlo | pwhi | ctrl | sus | f2lo | f2hi | f3lo | f3hi | fclo | fchi | res | mode
deriving DecidableEq, Repr

end Sys2Proof
end

