-- ==== Sys2Proof/Machine/Literals.lean ====
section
/-! DEFINITION. Machine/Literals.lean: the literals of 00_scope.md R6, each named once (D46), so that an audit of the
document's numbers changes one line. The widths of R6 name types, in Word.lean: `SEL_W` is `ChannelId`, `SAMPLE_W`
`Sample`, `ADDR_W` `ChipAddr`, `DATA_W` `Byte`, `FREQ_W` `FreqValue`, `PW_W` `PulseWidth`, `RES_W` `Resonance`, and
`N_SW` the constructors of `Switch` and the width of `SwitchBits`. `OFF_DEFAULT` stands with the values of R7, in
Constants.lean. The statements and `SafeState` restate the numbers, so that a wrong literal here is noticed there. -/

namespace Sys2Proof.Machine

/-- `T_TICK` in microseconds: 20 ms, 50 Hz. "No rule of the model depends" on it (R205, log 21). -/
abbrev tTick : Nat := 20000
/-- `N_CH`: "up to 16" multiplexer lines (R41). -/
abbrev nCh : Nat := 16
/-- The largest sample, 1023 (`SAMPLE_W`). -/
abbrev sampleMax : Nat := 1023
/-- `DIG_THRESH`: a digital read is `sample > 512` (R92). -/
abbrev digThresh : Nat := 512
/-- The lower bound of `T_SETTLE` in microseconds (R90, R200). -/
abbrev tSettleMin : Nat := 500
/-- The lower bound of `T_HOLD` in microseconds (R122, R123, R200). -/
abbrev tHoldMin : Nat := 10
/-- `PW_MIN`, `PW_MAX`: the pulse width clamp (R153). -/
abbrev pwMin : Int := 160
abbrev pwMax : Int := 4095
/-- `OFF_MIN`, `OFF_MAX`: the bounds of `TuningOffset` (R21). -/
abbrev offMin : Int := 0
abbrev offMax : Int := 613
/-- `WF_FLOOR`: the waveform pot acts when `sample > 50` (R139). -/
abbrev wfFloor : Nat := 50
/-- `O3_LO`, `O3_MID`, `O3_HI`: the ring/sync CV thresholds (R141). -/
abbrev o3Lo : Nat := 100
abbrev o3Mid : Nat := 300
abbrev o3Hi : Nat := 750
/-- `NV_SENTINEL`: the settings byte of an erased store (R46, R190). -/
abbrev nvSentinel : Byte := 0xFF
/-- The least `TAB_LEN`, "≥ 1023 + 613 + 1" (R7, R45). -/
abbrev tabLenMin : Nat := sampleMax + offMax.toNat + 1

end Sys2Proof.Machine
end

