-- ==== Sys2Proof/Config.lean ====
section
/-! DEFINITION. Config.lean: the OPEN parameters of 00_scope.md R7 as one record of plain data, their constraints,
the reference configuration `CFG_REF`, and the free values of the model. The machine carries a configuration in its
state and never changes it (R32, log 1), so a statement about every state is about every configuration. -/

namespace Sys2Proof

open Sys2Proof.Machine

/-- The fourteen chip address parameters `A_*` (R43). -/
structure ChipMap where
  f1lo : ChipAddr
  f1hi : ChipAddr
  pwlo : ChipAddr
  pwhi : ChipAddr
  ctrl : ChipAddr
  sus : ChipAddr
  f2lo : ChipAddr
  f2hi : ChipAddr
  f3lo : ChipAddr
  f3hi : ChipAddr
  fclo : ChipAddr
  fchi : ChipAddr
  res : ChipAddr
  mode : ChipAddr
deriving DecidableEq, Repr

/-- The OPEN parameters (class `O` of R7). Each is an argument of the model: no rule may rely on a particular value. -/
structure Config where
  /-- `SKEW_MIRROR`: whether "RINGSYNC fresh and FILTER already ignored" also toggles tuning mode (R131, D6). -/
  skewMirror : Bool
  /-- `WF_T_TRI`, `WF_T_SAW`, `WF_T_PULSE`: the waveform pot band edges (R139, D18). -/
  wfTri : Sample
  wfSaw : Sample
  wfPulse : Sample
  /-- `CH[0..10]`: the multiplexer channel of each sampled input (R41, D36). -/
  ch : PerInput ChannelId
  /-- `TAB`, whose length is `TAB_LEN`: the frequency table (R44, R45, D34). -/
  tab : List FreqValue
  /-- The `A_*` chip register addresses (R43, D24). -/
  addr : ChipMap
  /-- `SUS_FULL` (R75, D25). -/
  susFull : Byte
  /-- `RES_LOW`, the low nibble written with the resonance (R73, D25). -/
  resLow : BitVec 4
  /-- `MODE_LOW`, the low nibble written with the filter mode (R74, D25). -/
  modeLow : BitVec 4
  /-- `FMODE[0..3]` (R74, R151, D25). -/
  fmode : Vector Byte 4
  /-- `B2`: the byte presented in step 2 of a register write, by address (R76, D35). -/
  b2 : Vector Byte 32
  /-- `ALE_ACTIVE`: the level of an asserted address-latch strobe (R122, D35). -/
  aleActive : Bool
  /-- `NV_SETTINGS`: the primary settings address (R46, D37). -/
  nvSettings : Nat
  /-- `NV_TUNING`: the location of the offset word (R46, D37); which addresses a word covers is log 24. -/
  nvTuning : Nat
  /-- `T_SETTLE` in microseconds (R90, D2). -/
  tSettle : Nat
  /-- `T_HOLD` in microseconds (R122, R123, D2). -/
  tHold : Nat
deriving DecidableEq, Repr

/-- The eleven channels in the order of the sample registers (R11). -/
def PerInput.toList {α : Type} (p : PerInput α) : List α :=
  [p.sF, p.sW, p.sR, p.aWF, p.aRS, p.aF1, p.aF2, p.aF3, p.aPW, p.aFC, p.aRES]

/-- The fourteen addresses in the order of R43. -/
def ChipMap.toList (m : ChipMap) : List ChipAddr :=
  [m.f1lo, m.f1hi, m.pwlo, m.pwhi, m.ctrl, m.sus, m.f2lo, m.f2hi, m.f3lo, m.f3hi, m.fclo, m.fchi, m.res, m.mode]

/-- Each entry below the next: strict monotonicity of the table (R111). -/
def strictlyRising : List FreqValue → Bool
  | [] => true
  | [_] => true
  | a :: b :: rest => decide (a.toNat < b.toNat) && strictlyRising (b :: rest)

/-- The constraints the rules put on the OPEN parameters: distinct channels among the 16 lines (R41), distinct addresses (R43), ordered
pot edges (R139), a strictly increasing table of at least 1637 entries (R45, R111), mode bytes with a zero low nibble
(R151), an injective step-2 encoding (R76), store locations that do not overlap (R46), delays not below their bounds
(R7, R200).
"The two locations must not overlap" (R46) is read with `NV_SETTINGS` as one byte and the word at `NV_TUNING` as the two
byte addresses `NV_TUNING` and `NV_TUNING + 1`: the spec gives NV addresses no unit and does not say which a word covers
(DESIGN CHOICE, log 24). -/
def Config.wf (c : Config) : Bool :=
  decide c.ch.toList.Nodup && c.ch.toList.all (fun i => decide (i.toNat < nCh))
    && decide c.addr.toList.Nodup
    && decide (wfFloor < c.wfTri.toNat) && decide (c.wfTri.toNat < c.wfSaw.toNat)
    && decide (c.wfSaw.toNat < c.wfPulse.toNat) && decide (c.wfPulse.toNat < sampleMax)
    && decide (tabLenMin ≤ c.tab.length) && strictlyRising c.tab
    && c.fmode.toList.all (fun b => b.extractLsb' 0 4 == 0#4)
    && decide c.b2.toList.Nodup
    && decide (c.nvSettings ≠ c.nvTuning) && decide (c.nvSettings ≠ c.nvTuning + 1)
    && decide (tSettleMin ≤ c.tSettle) && decide (tHoldMin ≤ c.tHold)

/-- `TAB_TEST`: `n` entries ending at index `total - 1`, entry `i` being `40*i + 16` (R7, D34). DESIGN CHOICE, log 3:
an arbitrary table of the spec's test vectors, no claim about a real board. -/
def tabTest (total : Nat) : Nat → List FreqValue
  | 0 => []
  | n + 1 => BitVec.ofNat 16 (40 * (total - (n + 1)) + 16) :: tabTest total n

/-- The reference configuration `CFG_REF` (R7). Unsafe to rely on: the `A_*` addresses, `SUS_FULL`, `RES_LOW`,
`MODE_LOW` and `FMODE` are from general knowledge (PRESUMED, log 2), the rest is an arbitrary choice of the spec
(DESIGN CHOICE, log 3). -/
def Config.ref : Config where
  skewMirror := false
  wfTri := 255
  wfSaw := 511
  wfPulse := 767
  ch := ⟨0, 1, 2, 3, 4, 5, 6, 7, 8, 9, 10⟩
  tab := tabTest 1637 1637
  addr := ⟨0x00, 0x01, 0x02, 0x03, 0x04, 0x06, 0x07, 0x08, 0x0E, 0x0F, 0x15, 0x16, 0x17, 0x18⟩
  susFull := 0xF0
  resLow := 0x7
  modeLow := 0xF
  fmode := #v[0x10, 0x20, 0x40, 0x50]
  b2 := #v[0x00, 0x01, 0x02, 0x03, 0x04, 0x05, 0x06, 0x07, 0x08, 0x09, 0x0A, 0x0B, 0x0C, 0x0D, 0x0E, 0x0F,
    0x10, 0x11, 0x12, 0x13, 0x14, 0x15, 0x16, 0x17, 0x18, 0x19, 0x1A, 0x1B, 0x1C, 0x1D, 0x1E, 0x1F]
  aleActive := true
  nvSettings := 0x00
  nvTuning := 0x02
  tSettle := 500
  tHold := 10

/-- FREE VALUE (R91, 93 U3, log 7): the `n`-th sample the environment gives when it has scripted none. Any 10-bit
value: "a free input of each `MUX.RDA`, under no law but its 10-bit range" (R32). -/
opaque Config.freeSample : Nat → Sample

/-- FREE VALUE (93 U10, log 23): what a store word that was never saved reads as, by address. Any 16-bit value. -/
opaque Config.erasedWord : Nat → BitVec 16

end Sys2Proof
end

