-- ==== Sys2Proof/Machine/Constants.lean ====
section
/-! DEFINITION. Machine/Constants.lean: the values the spec decides once (class `D` of R7): offset default and step,
shifts, and the codes of waveform, filter type and oscillator-3 mode (R65, R66), with the eleven inputs and the fourteen
addresses by name. The literals of R6 are in Literals.lean. -/

namespace Sys2Proof.Machine

/-- `OFF_DEFAULT` = floor(613 / 2) (R7, D39). -/
abbrev offDefault : BitVec 10 := 306
/-- `OFF_STEP`: the change of `TuningOffset` per tick while held (R7, D10). -/
abbrev offStep : Int := 1
/-- `PW_SHIFT`: left shift from sample to pulse width (R153, D31). -/
abbrev pwShift : Nat := 2
/-- `RES_SHIFT`: right shift from sample to resonance (R155, D33). -/
abbrev resShift : Nat := 6
/-- The value of `S.pulseWidth` at reset, "chosen inside the clamp range" (R14, R190). -/
abbrev pwReset : PulseWidth := 160
/-- `SUS_OFF`: "sustain register zeroed" (R75). -/
abbrev susOff : Byte := 0x00

/-- Waveform codes (R65, D27). -/
abbrev wfNone : Byte := 0x00
abbrev wfTriangle : Byte := 0x10
abbrev wfSawtooth : Byte := 0x20
abbrev wfPulse : Byte := 0x40
abbrev wfNoise : Byte := 0x80

/-- Filter type codes (R66, D28). -/
abbrev ftLowPass : BitVec 2 := 0
abbrev ftBandPass : BitVec 2 := 1
abbrev ftHighPass : BitVec 2 := 2
abbrev ftNotch : BitVec 2 := 3

/-- Oscillator-3 mode codes (R66, D28); code 3 is never held. -/
abbrev o3None : BitVec 2 := 0
abbrev o3Sync : BitVec 2 := 1
abbrev o3Ring : BitVec 2 := 2

/-- `FLED[0..3]`: the filter LEDs by filter type (R69, D30). -/
def fled (t : BitVec 2) : Byte :=
  match t with
  | 0#2 => 0x01
  | 1#2 => 0x02
  | 2#2 => 0x04
  | 3#2 => 0x05

/-- The mask of one switch: `1 << BIT_F`, `1 << BIT_W`, `1 << BIT_R` (R8, R81). -/
def switchBit (x : Switch) : SwitchBits :=
  match x with
  | .filter => 0b001
  | .waveform => 0b010
  | .ringsync => 0b100

/-- The sampled inputs in index order, `x[0]` first (R11, R93). -/
def inputOrder : List Input :=
  [.sF, .sW, .sR, .aWF, .aRS, .aF1, .aF2, .aF3, .aPW, .aFC, .aRES]

/-- The frequency-bearing input of channel `k`, `x[4+k]` (R152). -/
def freqInput (k : FreqCh) : Input :=
  match k with
  | .one => .aF1
  | .two => .aF2
  | .three => .aF3

/-- The value of input `i` in a record of eleven. -/
def inputGet {α : Type} (p : PerInput α) (i : Input) : α :=
  match i with
  | .sF => p.sF
  | .sW => p.sW
  | .sR => p.sR
  | .aWF => p.aWF
  | .aRS => p.aRS
  | .aF1 => p.aF1
  | .aF2 => p.aF2
  | .aF3 => p.aF3
  | .aPW => p.aPW
  | .aFC => p.aFC
  | .aRES => p.aRES

/-- The record with the value of input `i` replaced (`x[i] <- v`, R8). -/
def inputSet {α : Type} (p : PerInput α) (i : Input) (v : α) : PerInput α :=
  match i with
  | .sF => { p with sF := v }
  | .sW => { p with sW := v }
  | .sR => { p with sR := v }
  | .aWF => { p with aWF := v }
  | .aRS => { p with aRS := v }
  | .aF1 => { p with aF1 := v }
  | .aF2 => { p with aF2 := v }
  | .aF3 => { p with aF3 := v }
  | .aPW => { p with aPW := v }
  | .aFC => { p with aFC := v }
  | .aRES => { p with aRES := v }

/-- The address parameter `A_<r>` of a chip register (R43). -/
def chipAddrOf (c : Config) (r : ChipReg) : ChipAddr :=
  match r with
  | .f1lo => c.addr.f1lo
  | .f1hi => c.addr.f1hi
  | .pwlo => c.addr.pwlo
  | .pwhi => c.addr.pwhi
  | .ctrl => c.addr.ctrl
  | .sus => c.addr.sus
  | .f2lo => c.addr.f2lo
  | .f2hi => c.addr.f2hi
  | .f3lo => c.addr.f3lo
  | .f3hi => c.addr.f3hi
  | .fclo => c.addr.fclo
  | .fchi => c.addr.fchi
  | .res => c.addr.res
  | .mode => c.addr.mode

end Sys2Proof.Machine
end

