-- ==== Sys2Proof/Syntax.lean ====
section
/-! DEFINITION. Syntax.lean: the operations of the block, one constructor for each of the 48 rows of
spec/opcode_table.json (30_encoding.md R80), and the codes an operation is selected by (R60 to R64). -/

namespace Sys2Proof

/-- One operation of the block. The first seven are invoked by name with operands; those from `tick` to `resetLoad`
are run by the sequencer; the last fourteen are the chip commands. -/
inductive Instr where
  /-- `MUX.SEL ch` (R90). -/
  | muxSel (ch : ChannelId)
  /-- `MUX.RDA` (R91). -/
  | muxRda
  /-- `MUX.RDD ch` (R92). -/
  | muxRdd (ch : ChannelId)
  /-- `DEB.FRESH X` (R101). -/
  | debFresh (x : Switch)
  /-- `DEB.CONSUME m` (R102). -/
  | debConsume (m : SwitchBits)
  /-- `FT.XLT raw, off` (R110). -/
  | ftXlt (raw off : BitVec 10)
  /-- `DRV.WR a, d` (R120). -/
  | drvWr (a : ChipAddr) (d : Byte)
  /-- `TICK` (R130): phase P0, idle until a tick event. -/
  | tick
  /-- `MUX.SCAN` (R93): phase P1. -/
  | muxScan
  /-- `DEB.LOAD` (R100): phase P2. -/
  | debLoad
  /-- `TUNE.TOGGLE` (R131): phase P3, any variant or none. -/
  | tuneToggle
  /-- `TUNE.TOGGLE.A` (R131): FILTER fresh and RINGSYNC fresh. -/
  | tuneToggleA
  /-- `TUNE.TOGGLE.B` (R131): FILTER fresh and RINGSYNC already ignored. -/
  | tuneToggleB
  /-- `TUNE.TOGGLE.M` (R131): RINGSYNC fresh and FILTER already ignored, if `SKEW_MIRROR`. -/
  | tuneToggleM
  /-- `TUNE.DEC` (R132): phase P4, first half. -/
  | tuneDec
  /-- `TUNE.INC` (R133): phase P4, second half. -/
  | tuneInc
  /-- `GATE.MUTE` (R134): phase P5. -/
  | gateMute
  /-- `FILT.NEXT` (R135): phase P6. -/
  | filtNext
  /-- `WF.DEFAULT` (R136): phase P7. -/
  | wfDefault
  /-- `GATE.RESTORE` (R137): phase P8 with the gate off. -/
  | gateRestore
  /-- `WF.NEXT` (R138): phase P8 with the gate on. -/
  | wfNext
  /-- `WF.POT` (R139): phase P9. -/
  | wfPot
  /-- `O3.NEXT` (R140): phase P10. -/
  | o3Next
  /-- `O3.CV` (R141): phase P11. -/
  | o3Cv
  /-- `CTRL.WR` (R150): phase P12. -/
  | ctrlWr
  /-- `FMODE.WR` (R151): phase P13. -/
  | fmodeWr
  /-- `FREQ.UPD k` (R152): phase P14, run for `k` = 1, 2, 3. -/
  | freqUpd (k : FreqCh)
  /-- `PW.UPD` (R153): phase P15. -/
  | pwUpd
  /-- `FC.UPD` (R154): phase P16. -/
  | fcUpd
  /-- `RES.UPD` (R155): phase P17. -/
  | resUpd
  /-- `NV.PERSIST` (R156): phase P18 with some switch pressed. -/
  | nvPersist
  /-- `DEB.RELEASE` (R103): phase P18 with no switch pressed. -/
  | debRelease
  /-- `LED.OUT` (R157): phase P19. -/
  | ledOut
  /-- `RESET.LOAD` (R190): phase P31. -/
  | resetLoad
  /-- `CMD.F1LO` (R70): frequency[7:0] of channel 1. -/
  | cmdF1lo (v : Byte)
  /-- `CMD.F1HI` (R70): frequency[15:8] of channel 1. -/
  | cmdF1hi (v : Byte)
  /-- `CMD.PWLO` (R71): pulse width[7:0]. -/
  | cmdPwlo (p : Byte)
  /-- `CMD.PWHI` (R71): pulse width[11:8]. -/
  | cmdPwhi (p : BitVec 4)
  /-- `CMD.CTRL` (R67): waveform nibble, ring, sync, gate. -/
  | cmdCtrl (w : BitVec 4) (r s g : Bool)
  /-- `CMD.SUS` (R75): the sustain byte. -/
  | cmdSus (d : Byte)
  /-- `CMD.F2LO` (R70): frequency[7:0] of channel 2. -/
  | cmdF2lo (v : Byte)
  /-- `CMD.F2HI` (R70): frequency[15:8] of channel 2. -/
  | cmdF2hi (v : Byte)
  /-- `CMD.F3LO` (R70): frequency[7:0] of channel 3. -/
  | cmdF3lo (v : Byte)
  /-- `CMD.F3HI` (R70): frequency[15:8] of channel 3. -/
  | cmdF3hi (v : Byte)
  /-- `CMD.FCLO` (R72): cutoff[2:0]. -/
  | cmdFclo (c : BitVec 3)
  /-- `CMD.FCHI` (R72): cutoff[10:3]. -/
  | cmdFchi (c : Byte)
  /-- `CMD.RES` (R73): resonance and `RES_LOW`. -/
  | cmdRes (r l : BitVec 4)
  /-- `CMD.MODE` (R74): `FMODE[filterType][7:4]` and `MODE_LOW`. -/
  | cmdMode (m l : BitVec 4)
deriving DecidableEq, Repr

/-- The operations of format `none`, which "have no bit pattern of their own" (R80). -/
inductive OpName where
  | muxRda
  | muxRdd
  | debFresh
  | debConsume
  | ftXlt
deriving DecidableEq, Repr

/-- An operation invoked by name, as its invoker hands it over (log 12). -/
inductive Call where
  /-- Format `SEL` (R61): the operand of `MUX.SEL`. -/
  | sel (c : ChannelId)
  /-- Format `CMD` (R63) as the operand pair of `DRV.WR`: address in bits 12:8, data in bits 7:0. -/
  | drv (w : BitVec 13)
  /-- Format `CMD` (R63) as one of the fourteen named commands. -/
  | cmd (w : BitVec 13)
  /-- Format `none`: a name and its operands, packed from bit 0 with the last operand lowest (DESIGN CHOICE, log 12). -/
  | named (op : OpName) (operands : BitVec 20)
deriving DecidableEq, Repr

/-- What selects the operation to run. -/
inductive Code where
  /-- The sequencer's word: format `PH` (R64), the turn within the phase (log 10), and the `SWD` word (R62). -/
  | seq (p : Phase) (turn : BitVec 2) (swd : BitVec 8)
  /-- An operation invoked by name. -/
  | call (c : Call)
deriving DecidableEq, Repr

/-- Why a code stands for no operation (log 33). -/
inductive DecodeError where
  /-- A phase number 20 to 30, "never held" (R64, R78). -/
  | phaseNeverHeld (p : Phase)
  /-- A turn the phase does not have: P4 has two, P14 three, every other phase one (R64). -/
  | turnNeverHeld (p : Phase) (turn : BitVec 2)
  /-- A chip command whose address is none of the fourteen parameters (R43, R63). -/
  | notACommand (a : ChipAddr)
  /-- A chip command with a set bit where the row's pattern has a 0 (R63). -/
  | dataBitReserved (a : ChipAddr) (d : Byte)
  /-- An operand word of a named operation with bits that stand for no operand value (log 12). -/
  | operandReserved (op : OpName)
deriving DecidableEq, Repr

end Sys2Proof
end

