-- ==== Sys2Proof/WellFormed.lean ====
section
/-! DEFINITION. WellFormed.lean: the operand values the rules allow beyond what the widths already say. The machine
does not test these: every operation is total over its operands (R78), and the checks say which operands the block
itself forms (log 31). -/

namespace Sys2Proof

open Sys2Proof.Machine

/-- `FT.XLT` takes an offset of 0 to 613 (R110). -/
def offsetInRange (off : BitVec 10) : Bool := decide ((off.toNat : Int) ≤ offMax)

/-- `TUNE.TOGGLE.M` "exists only if parameter SKEW_MIRROR is true" (the table's row, R62). -/
def mirrorExists (c : Config) : Bool := c.skewMirror

/-- A waveform nibble has exactly one bit set, and ring and sync are never both 1 (R67). -/
def ctrlFieldsOk (w : BitVec 4) (r s : Bool) : Bool :=
  (w == 1#4 || w == 2#4 || w == 4#4 || w == 8#4) && !(r && s)

/-- The sustain byte is `SUS_OFF` or `SUS_FULL` (R75). -/
def susOk (c : Config) (d : Byte) : Bool := d == susOff || d == c.susFull

/-- The low nibble written with the resonance is `RES_LOW` (R73). -/
def resOk (c : Config) (l : BitVec 4) : Bool := l == c.resLow

/-- The mode byte is one of the four `FMODE` nibbles over `MODE_LOW` (R74). -/
def modeOk (c : Config) (m l : BitVec 4) : Bool :=
  c.fmode.toList.any (fun b => b.extractLsb' 4 4 == m) && l == c.modeLow

/-- The operands are ones the rules allow under configuration `c`. -/
def Instr.wellFormed (c : Config) (i : Instr) : Bool :=
  match i with
  | .ftXlt _ off => offsetInRange off
  | .tuneToggleM => mirrorExists c
  | .cmdCtrl w r s _ => ctrlFieldsOk w r s
  | .cmdSus d => susOk c d
  | .cmdRes _ l => resOk c l
  | .cmdMode m l => modeOk c m l
  | .muxSel _ => true
  | .muxRda => true
  | .muxRdd _ => true
  | .debFresh _ => true
  | .debConsume _ => true
  | .drvWr _ _ => true
  | .tick => true
  | .muxScan => true
  | .debLoad => true
  | .tuneToggle => true
  | .tuneToggleA => true
  | .tuneToggleB => true
  | .tuneDec => true
  | .tuneInc => true
  | .gateMute => true
  | .filtNext => true
  | .wfDefault => true
  | .gateRestore => true
  | .wfNext => true
  | .wfPot => true
  | .o3Next => true
  | .o3Cv => true
  | .ctrlWr => true
  | .fmodeWr => true
  | .freqUpd _ => true
  | .pwUpd => true
  | .fcUpd => true
  | .resUpd => true
  | .nvPersist => true
  | .debRelease => true
  | .ledOut => true
  | .resetLoad => true
  | .cmdF1lo _ => true
  | .cmdF1hi _ => true
  | .cmdPwlo _ => true
  | .cmdPwhi _ => true
  | .cmdF2lo _ => true
  | .cmdF2hi _ => true
  | .cmdF3lo _ => true
  | .cmdF3hi _ => true
  | .cmdFclo _ => true
  | .cmdFchi _ => true

end Sys2Proof
end

