-- ==== Sys2Proof/Decode.lean ====
section
/-! DEFINITION. Decode.lean: which operation a code selects (30_encoding.md R60 to R64), total on every code and
rejecting by name, the encoder, and the reading of one row's word as spec/opcode_table.json numbers it. -/

namespace Sys2Proof

open Sys2Proof.Machine

/-- A switch pattern of R62: the word matches if its bits under `mask` are `value`. -/
structure SwdPattern where
  mask : BitVec 8
  value : BitVec 8
deriving DecidableEq, Repr

/-- The word matches the pattern (R62). -/
def swdHits (p : SwdPattern) (w : BitVec 8) : Bool := (w &&& p.mask) == p.value

/-- The patterns of R62, `t g iR iW iF sR sW sF`. -/
def patToggleA : SwdPattern := ⟨0x2D, 0x05⟩
def patToggleB : SwdPattern := ⟨0x29, 0x21⟩
def patToggleM : SwdPattern := ⟨0x2C, 0x0C⟩
def patTuneDec : SwdPattern := ⟨0x81, 0x81⟩
def patTuneInc : SwdPattern := ⟨0x84, 0x84⟩
def patGateMute : SwdPattern := ⟨0x36, 0x06⟩
def patFiltNext : SwdPattern := ⟨0x89, 0x01⟩
def patGateRestore : SwdPattern := ⟨0x52, 0x42⟩
def patWfNext : SwdPattern := ⟨0x52, 0x02⟩
def patO3Next : SwdPattern := ⟨0xE4, 0x04⟩
def patRelease : SwdPattern := ⟨0x07, 0x00⟩

/-- The operation of a phase that has one turn (R64). -/
def onlyTurn (p : Phase) (turn : BitVec 2) (i : Instr) : Except DecodeError Instr :=
  if turn = 0#2 then .ok i else .error (.turnNeverHeld p turn)

/-- P3 (R131): the variant whose pattern the word matches, M only if `SKEW_MIRROR`; with none the row itself. -/
def toggleVariant (c : Config) (w : BitVec 8) : Instr :=
  if swdHits patToggleA w then .tuneToggleA
  else if swdHits patToggleB w then .tuneToggleB
  else if c.skewMirror && swdHits patToggleM w then .tuneToggleM
  else .tuneToggle

/-- P8 (R137, R138): the two arms "exclude each other on `S.gateOff`", bit `g` of the word. -/
def restoreOrNext (w : BitVec 8) : Instr :=
  if w.getLsbD 6 then .gateRestore else .wfNext

/-- P18 (R103, R156): `xxxxx000` is the release arm, any other word the persist arm. -/
def releaseOrPersist (w : BitVec 8) : Instr :=
  if swdHits patRelease w then .debRelease else .nvPersist

/-- P4 (R132, R133): the decrement, then the increment. -/
def tuneStep (p : Phase) (turn : BitVec 2) : Except DecodeError Instr :=
  match turn with
  | 0#2 => .ok .tuneDec
  | 1#2 => .ok .tuneInc
  | 2#2 => .error (.turnNeverHeld p turn)
  | 3#2 => .error (.turnNeverHeld p turn)

/-- P14 (R152): `k` = 1, 2, 3 in this order. -/
def freqStep (p : Phase) (turn : BitVec 2) : Except DecodeError Instr :=
  match turn with
  | 0#2 => .ok (.freqUpd .one)
  | 1#2 => .ok (.freqUpd .two)
  | 2#2 => .ok (.freqUpd .three)
  | 3#2 => .error (.turnNeverHeld p turn)

/-- The operation the sequencer runs (format `PH`, R64, with the `SWD` word where a phase has several rows). -/
def decodeSeq (c : Config) (p : Phase) (turn : BitVec 2) (w : BitVec 8) : Except DecodeError Instr :=
  match p with
  | 0#5 => onlyTurn p turn .tick
  | 1#5 => onlyTurn p turn .muxScan
  | 2#5 => onlyTurn p turn .debLoad
  | 3#5 => onlyTurn p turn (toggleVariant c w)
  | 4#5 => tuneStep p turn
  | 5#5 => onlyTurn p turn .gateMute
  | 6#5 => onlyTurn p turn .filtNext
  | 7#5 => onlyTurn p turn .wfDefault
  | 8#5 => onlyTurn p turn (restoreOrNext w)
  | 9#5 => onlyTurn p turn .wfPot
  | 10#5 => onlyTurn p turn .o3Next
  | 11#5 => onlyTurn p turn .o3Cv
  | 12#5 => onlyTurn p turn .ctrlWr
  | 13#5 => onlyTurn p turn .fmodeWr
  | 14#5 => freqStep p turn
  | 15#5 => onlyTurn p turn .pwUpd
  | 16#5 => onlyTurn p turn .fcUpd
  | 17#5 => onlyTurn p turn .resUpd
  | 18#5 => onlyTurn p turn (releaseOrPersist w)
  | 19#5 => onlyTurn p turn .ledOut
  | 31#5 => onlyTurn p turn .resetLoad
  | _ => .error (.phaseNeverHeld p)

/-- The address part `aaaaa` of a `CMD` word (R63). -/
def cmdAddress (w : BitVec 13) : ChipAddr := w.extractLsb' 8 5

/-- The data part `dddddddd` of a `CMD` word (R63). -/
def cmdData (w : BitVec 13) : Byte := w.extractLsb' 0 8

/-- A `CMD` word: `address[4:0] ++ data[7:0]` (R63). -/
def cmdWord (a : ChipAddr) (d : Byte) : BitVec 13 := a ++ d

/-- The control byte of fields `w`, `r`, `s`, `g`: `wwww0rsg` (R67). -/
def ctrlFields (w : BitVec 4) (r s g : Bool) : Byte :=
  w ++ 0#1 ++ BitVec.ofBool r ++ BitVec.ofBool s ++ BitVec.ofBool g

/-- The named command at address `a` with data `d` (R63): the row whose address parameter is `a`, if the data bits the
row fixes to 0 are 0. -/
def decodeCmd (c : Config) (a : ChipAddr) (d : Byte) : Except DecodeError Instr :=
  if a = c.addr.f1lo then .ok (.cmdF1lo d)
  else if a = c.addr.f1hi then .ok (.cmdF1hi d)
  else if a = c.addr.pwlo then .ok (.cmdPwlo d)
  else if a = c.addr.pwhi then
    if d.extractLsb' 4 4 = 0#4 then .ok (.cmdPwhi (d.extractLsb' 0 4)) else .error (.dataBitReserved a d)
  else if a = c.addr.ctrl then
    if d.getLsbD 3 then .error (.dataBitReserved a d)
    else .ok (.cmdCtrl (d.extractLsb' 4 4) (d.getLsbD 2) (d.getLsbD 1) (d.getLsbD 0))
  else if a = c.addr.sus then .ok (.cmdSus d)
  else if a = c.addr.f2lo then .ok (.cmdF2lo d)
  else if a = c.addr.f2hi then .ok (.cmdF2hi d)
  else if a = c.addr.f3lo then .ok (.cmdF3lo d)
  else if a = c.addr.f3hi then .ok (.cmdF3hi d)
  else if a = c.addr.fclo then
    if d.extractLsb' 3 5 = 0#5 then .ok (.cmdFclo (d.extractLsb' 0 3)) else .error (.dataBitReserved a d)
  else if a = c.addr.fchi then .ok (.cmdFchi d)
  else if a = c.addr.res then .ok (.cmdRes (d.extractLsb' 4 4) (d.extractLsb' 0 4))
  else if a = c.addr.mode then .ok (.cmdMode (d.extractLsb' 4 4) (d.extractLsb' 0 4))
  else .error (.notACommand a)

/-- The operand word `v` of `op`, whose operands take `n` bits: its bits above are reserved (log 12). -/
def operandsWithin (op : OpName) (n : Nat) (v : BitVec 20) (i : Instr) : Except DecodeError Instr :=
  if v.toNat < 2 ^ n then .ok i else .error (.operandReserved op)

/-- The operand of `DEB.FRESH`: 0 FILTER, 1 WAVEFORM, 2 RINGSYNC (the bit numbers of R81, log 12). -/
def decodeFresh (v : BitVec 20) : Except DecodeError Instr :=
  if v = 0#20 then .ok (.debFresh .filter)
  else if v = 1#20 then .ok (.debFresh .waveform)
  else if v = 2#20 then .ok (.debFresh .ringsync)
  else .error (.operandReserved .debFresh)

/-- An operation of format `none`, by name and operands (R80, log 12). -/
def decodeNamed (op : OpName) (v : BitVec 20) : Except DecodeError Instr :=
  match op with
  | .muxRda => operandsWithin op 0 v .muxRda
  | .muxRdd => operandsWithin op 4 v (.muxRdd (v.extractLsb' 0 4))
  | .debFresh => decodeFresh v
  | .debConsume => operandsWithin op 3 v (.debConsume (v.extractLsb' 0 3))
  | .ftXlt => .ok (.ftXlt (v.extractLsb' 10 10) (v.extractLsb' 0 10))

/-- The operation an invocation names. -/
def decodeCall (c : Config) (k : Call) : Except DecodeError Instr :=
  match k with
  | .sel ch => .ok (.muxSel ch)
  | .drv w => .ok (.drvWr (cmdAddress w) (cmdData w))
  | .cmd w => decodeCmd c (cmdAddress w) (cmdData w)
  | .named op v => decodeNamed op v

/-- The operation a code selects, or the reason it selects none. -/
def decode (c : Config) (k : Code) : Except DecodeError Instr :=
  match k with
  | .seq p turn w => decodeSeq c p turn w
  | .call k => decodeCall c k

/-- The code of an operation, written from the same tables: its phase and turn with its pattern's word, or its
invocation. Bits a pattern leaves free (`x`) are 0; P18's persist arm, "any word that does not match `xxxxx000`",
takes the word 0x01. -/
def encode (c : Config) (i : Instr) : Code :=
  match i with
  | .muxSel ch => .call (.sel ch)
  | .muxRda => .call (.named .muxRda 0)
  | .muxRdd ch => .call (.named .muxRdd (ch.setWidth 20))
  | .debFresh x => .call (.named .debFresh (match x with | .filter => 0 | .waveform => 1 | .ringsync => 2))
  | .debConsume m => .call (.named .debConsume (m.setWidth 20))
  | .ftXlt raw off => .call (.named .ftXlt (raw ++ off))
  | .drvWr a d => .call (.drv (cmdWord a d))
  | .tick => .seq 0 0 0
  | .muxScan => .seq 1 0 0
  | .debLoad => .seq 2 0 0
  | .tuneToggle => .seq 3 0 0
  | .tuneToggleA => .seq 3 0 patToggleA.value
  | .tuneToggleB => .seq 3 0 patToggleB.value
  | .tuneToggleM => .seq 3 0 patToggleM.value
  | .tuneDec => .seq 4 0 patTuneDec.value
  | .tuneInc => .seq 4 1 patTuneInc.value
  | .gateMute => .seq 5 0 patGateMute.value
  | .filtNext => .seq 6 0 patFiltNext.value
  | .wfDefault => .seq 7 0 0
  | .gateRestore => .seq 8 0 patGateRestore.value
  | .wfNext => .seq 8 0 patWfNext.value
  | .wfPot => .seq 9 0 0
  | .o3Next => .seq 10 0 patO3Next.value
  | .o3Cv => .seq 11 0 0
  | .ctrlWr => .seq 12 0 0
  | .fmodeWr => .seq 13 0 0
  | .freqUpd k => .seq 14 (match k with | .one => 0 | .two => 1 | .three => 2) 0
  | .pwUpd => .seq 15 0 0
  | .fcUpd => .seq 16 0 0
  | .resUpd => .seq 17 0 0
  | .nvPersist => .seq 18 0 0x01
  | .debRelease => .seq 18 0 patRelease.value
  | .ledOut => .seq 19 0 0
  | .resetLoad => .seq 31 0 0
  | .cmdF1lo v => .call (.cmd (cmdWord c.addr.f1lo v))
  | .cmdF1hi v => .call (.cmd (cmdWord c.addr.f1hi v))
  | .cmdPwlo p => .call (.cmd (cmdWord c.addr.pwlo p))
  | .cmdPwhi p => .call (.cmd (cmdWord c.addr.pwhi (0#4 ++ p)))
  | .cmdCtrl w r s g => .call (.cmd (cmdWord c.addr.ctrl (ctrlFields w r s g)))
  | .cmdSus d => .call (.cmd (cmdWord c.addr.sus d))
  | .cmdF2lo v => .call (.cmd (cmdWord c.addr.f2lo v))
  | .cmdF2hi v => .call (.cmd (cmdWord c.addr.f2hi v))
  | .cmdF3lo v => .call (.cmd (cmdWord c.addr.f3lo v))
  | .cmdF3hi v => .call (.cmd (cmdWord c.addr.f3hi v))
  | .cmdFclo b => .call (.cmd (cmdWord c.addr.fclo (0#5 ++ b)))
  | .cmdFchi b => .call (.cmd (cmdWord c.addr.fchi b))
  | .cmdRes r l => .call (.cmd (cmdWord c.addr.res (r ++ l)))
  | .cmdMode m l => .call (.cmd (cmdWord c.addr.mode (m ++ l)))

/-- How one row of the opcode table numbers its word (log 13): a `PH` word, an `SWD` word with the phase and turn
that test it, or a `CMD` word. -/
inductive RowWord where
  | ph (p : Phase)
  | swd (p : Phase) (turn : BitVec 2) (w : BitVec 8)
  | call (k : Call)
deriving DecidableEq, Repr

/-- The phase numbers that have a row of format `PH` in the table. -/
def phRow (w : Nat) : Bool :=
  [0, 1, 2, 3, 7, 9, 11, 12, 13, 14, 15, 16, 17, 19, 31].contains w

/-- The phase and turn of the `SWD` row an 8-bit word is read as when no `PH` row has that number: the rows in order
of how many bits their pattern fixes, so that each row's own match word reads as that row (DESIGN CHOICE, log 13). -/
def swdRow (w : BitVec 8) : Option (Phase × BitVec 2) :=
  if swdHits patToggleA w then some (3, 0)
  else if swdHits patGateMute w then some (5, 0)
  else if swdHits patO3Next w then some (10, 0)
  else if swdHits patToggleB w then some (3, 0)
  else if swdHits patToggleM w then some (3, 0)
  else if swdHits patGateRestore w then some (8, 0)
  else if swdHits patWfNext w then some (8, 0)
  else if swdHits patFiltNext w then some (6, 0)
  else if swdHits patTuneDec w then some (4, 0)
  else if swdHits patTuneInc w then some (4, 1)
  else some (18, 0)

/-- A row's word as the table numbers it. The table gives no format tag with a word, so an 8-bit number that is both
a `PH` row and an `SWD` match word (0x00, 0x01, 0x02, 0x0C) reads as the `PH` row (DESIGN CHOICE, log 13). A 16-bit
number is a `CMD` word: one of the fourteen commands, else the operand pair of `DRV.WR`. -/
def tableRow (nbits w : Nat) : Option RowWord :=
  if nbits = 8 then
    if phRow w then some (.ph (BitVec.ofNat 5 w))
    else if w < 256 then (swdRow (BitVec.ofNat 8 w)).map (fun q => .swd q.1 q.2 (BitVec.ofNat 8 w))
    else none
  else if nbits = 16 then
    if w < 8192 then
      let v := BitVec.ofNat 13 w
      match decodeCmd Config.ref (cmdAddress v) (cmdData v) with
      | .ok _ => some (.call (.cmd v))
      | .error _ => some (.call (.drv v))
    else none
  else none

/-- The code a row's word stands for. -/
def rowCode (r : RowWord) : Code :=
  match r with
  | .ph p => .seq p 0 0
  | .swd p turn w => .seq p turn w
  | .call k => .call k

/-- The operation the decoder reads from one row's word, under `CFG_REF`, whose addresses the table's rows carry. -/
def decodeTableWord (nbits w : Nat) : Option Instr :=
  match tableRow nbits w with
  | none => none
  | some r => (decode Config.ref (rowCode r)).toOption

end Sys2Proof
end

