-- ==== Sys2Proof/Machine/State.lean ====
section
/-! DEFINITION. Machine/State.lean: every piece of state of 10_state.md as plain data, the reasons a step can stop,
and the machine right after reset (10_state.md R33). -/

namespace Sys2Proof.Machine

/-- SynthState, "owned exclusively by the Control State Machine" (R12, R14 to R20). -/
@[ext] structure Synth where
  /-- `S.waveform`, one of five codes (R12, R65). -/
  waveform : Byte
  /-- `S.pulseWidth`, 160 to 4095, derived value and cache (R14). -/
  pulseWidth : PulseWidth
  /-- `S.filterCutoff`, 0 to 2046, derived value and cache (R15). -/
  filterCutoff : BitVec 11
  /-- `S.resonance`, derived value and cache (R16). -/
  resonance : Resonance
  /-- `S.filterType` (R17). -/
  filterType : BitVec 2
  /-- `S.oscillator3Mode` (R18). -/
  oscillator3Mode : BitVec 2
  /-- `S.gateOff` (R19). -/
  gateOff : Bool
  /-- `S.freqChannel[1..3]`, the last raw samples (R20). -/
  freq1 : Sample
  freq2 : Sample
  freq3 : Sample
deriving DecidableEq, Repr

/-- Tuning: `TuningOffset` (R21), `tuningMode` (R22) and `off0`, the offset at the start of P4 (R132). -/
@[ext] structure Tuning where
  offset : BitVec 10
  mode : Bool
  off0 : BitVec 10
deriving DecidableEq, Repr

/-- The flags: write requests (R25), cache validity (R26), offset change (R27). -/
@[ext] structure Flags where
  ctrlDirty : Bool
  ctrlResync : Bool
  filterDirty : Bool
  cachesValid : Bool
  offsetChanged : Bool
deriving DecidableEq, Repr

/-- Multiplexer state: the select lines `SEL[3:0]` (R90), `selCh` and `settled` (R29). -/
@[ext] structure Mux where
  sel : ChannelId
  selCh : ChannelId
  settled : Bool
deriving DecidableEq, Repr

/-- Driver pins `BUS`, `ALE`, `CS_N` and the external latch `LATCH` (R30). -/
@[ext] structure Pins where
  bus : Byte
  ale : Bool
  csN : Bool
  latch : Byte
deriving DecidableEq, Repr

/-- LED output (R31). -/
@[ext] structure Led where
  byte : Byte
  sync : Bool
deriving DecidableEq, Repr

/-- Interrupt bookkeeping (R36). -/
@[ext] structure Irq where
  pending : Bool
  tickMasked : Bool
  saved : Bool
deriving DecidableEq, Repr

/-- What lies outside the block and holds what the block wrote: the chip's registers `chip[0..31]` (R35) and the
persistence store `NV` with its byte and word locations (R46, R48). Each is a list of (address, value) pairs in one
canonical form (`memoryWf`, Machine/Ops.lean). -/
@[ext] structure Memory where
  chip : List Host.Cell
  nvBytes : List Host.Cell
  nvWords : List (Nat × BitVec 16)
deriving DecidableEq, Repr

/-- What the environment may do to the block between two operations (R176, R191, R175). -/
inductive Event where
  /-- Nothing happens. -/
  | quiet
  /-- A tick event (R176). -/
  | tick
  /-- A reset event (R191). -/
  | reset
  /-- Something outside the block tries to invoke an operation by name (R175); refused (R203, log 11). -/
  | invoke (c : Call)
deriving DecidableEq, Repr

/-- The converter's answer to one read (R91). -/
inductive AdcAnswer where
  /-- A sample: every value 0 to 1023 is valid (R171). -/
  | sample (v : Sample)
  /-- The converter never delivers a sample (`HwUnavailable`, R171). -/
  | never
deriving DecidableEq, Repr

/-- The environment's inputs still to come (R32, log 7, log 8). MODEL's own. -/
@[ext] structure Inputs where
  /-- One event for each step, in order; with none left, nothing happens (log 8). -/
  events : List Event
  /-- The converter's answers, in order; with none left, the sample is a free value (log 7). -/
  adc : List AdcAnswer
  /-- How many samples have been taken: what the free value is applied to (log 7). -/
  taken : Nat
deriving DecidableEq, Repr

/-- The nine pin events of a register write (R126). -/
inductive PinStep where
  | presentNibble
  | presentLatch
  | assertStrobe
  /-- The strobe is held for the given time in microseconds (`T_HOLD`, R122). -/
  | holdStrobe (us : Nat)
  | deassertStrobe
  | presentData
  | assertSelect
  /-- Chip select is held for the given time in microseconds (`T_HOLD`, R123). -/
  | holdSelect (us : Nat)
  | deassertSelect
deriving DecidableEq, Repr

/-- The order of the bits of a serial byte (`shiftOutBits`, R181). -/
inductive BitOrder where
  | msbFirst
  | lsbFirst
deriving DecidableEq, Repr

/-- One output as the environment sees it (R126, R158). -/
inductive Output where
  /-- The four select lines are driven (R90). -/
  | select (lines : ChannelId)
  /-- `T_SETTLE` passes, in microseconds (R90). -/
  | settle (us : Nat)
  /-- The converter is asked for a sample of the selected channel (R91). -/
  | convert (ch : ChannelId)
  /-- A pin event of a register write and the levels after it (R126). -/
  | pin (what : PinStep) (bus : Byte) (ale csN : Bool)
  /-- `saveByte(addr, b)` (R182). -/
  | saveByte (addr : Nat) (b : Byte)
  /-- `saveWord(addr, w)` (R182). -/
  | saveWord (addr : Nat) (w : BitVec 16)
  /-- The LED byte is shifted out (R49, R157). -/
  | shiftOut (order : BitOrder) (b : Byte)
  /-- The sync line is set (R157). -/
  | syncLine (level : Bool)
deriving DecidableEq, Repr

/-- The machine. -/
@[ext]
structure State where
  /-- The configuration, "a parameter of a step" (R32), carried read-only (log 1). -/
  cfg : Config
  /-- The sample registers `x[0..10]` (R11). -/
  x : PerInput Sample
  /-- `phase` (R13). -/
  phase : Phase
  /-- MODEL's own: which operation of the phase runs next (log 10). -/
  turn : BitVec 2
  /-- SynthState. -/
  synth : Synth
  /-- The tuning registers. -/
  tuning : Tuning
  /-- `SwitchMask` (R23). -/
  switchMask : SwitchBits
  /-- `IgnoreMask` (R24). -/
  ignoreMask : SwitchBits
  /-- The flags. -/
  flags : Flags
  /-- The multiplexer. -/
  mux : Mux
  /-- The driver pins. -/
  pins : Pins
  /-- The LED output. -/
  led : Led
  /-- Interrupt bookkeeping. -/
  irq : Irq
  /-- The chip's registers and the store. -/
  mem : Memory
  /-- MODEL's own: the environment's inputs still to come. -/
  inputs : Inputs
  /-- MODEL's own: an operation the tick routine invokes by name and has not yet run (R80, log 11). No step sets it. -/
  request : Option Call
  /-- MODEL's own: what the last operation invoked by name returned (log 14). -/
  result : BitVec 16
  /-- MODEL's own: every output so far, oldest first (log 22). -/
  out : List Output
deriving DecidableEq, Repr

/-- The reasons the machine stops with a fault. -/
inductive Fault where
  /-- `HwUnavailable` (R171), raised by every sample of `MUX.RDA`: the converter never answers, the block "makes no
  further step, ever". Safe: the machine has no successor, as the spec says (log 15). -/
  | hwUnavailable
  /-- `TableRange(idx)` (R172), raised by `FT.XLT`: the table has no entry `idx`. Safe: "the model stops with a named
  fault" (log 16). -/
  | tableRange (idx : Nat)
deriving DecidableEq, Repr

/-- The reasons the machine refuses to go on. -/
inductive Refusal where
  /-- Raised by an arm of `exec` that has no meaning yet; no arm is left so. -/
  | notModelled (mnemonic : String)
  /-- Raised by every sample of `MUX.RDA` with `settled = 0`: "a model refuses a sample with `settled = 0`" (R91).
  Safe: the block cannot do it (log 17). -/
  | notSettled
  /-- Raised by every register write begun while `CS_N` is low or `ALE` asserted: the precondition of R120, an overlap
  "would have to" be refused (R125). Safe: unreachable from states between operations (log 18). -/
  | driverBusy
  /-- Raised by the step when something outside the block invokes an operation, at any phase: "must refuse them" (R175),
  "nothing outside the tick may touch the block's registers, the pins or the multiplexer between or during ticks" (R203).
  Safe: the block has no second agent (log 11). -/
  | reentry
  /-- Raised by the step for an operation invoked by name where no tick is running, at P0 or P31: such an operation is
  part of a tick (R203). Safe: no step leads to such a state (log 11). -/
  | outsideTick
  /-- Raised by the step for a code that selects no operation. Safe: such a code is never formed by the block (log 33). -/
  | undecodable (e : DecodeError)
deriving DecidableEq, Repr

/-- The machine at reset under configuration `c` (R33): phase P31, the tick masked, the load not yet run. Registers
the spec leaves "unspecified" are 0 here (DESIGN CHOICE, log 4, unsafe to rely on); those `RESET.LOAD` will load hold
the defaults of an erased store (log 5). -/
def State.resetWith (c : Config) : State where
  cfg := c
  x := ⟨0, 0, 0, 0, 0, 0, 0, 0, 0, 0, 0⟩
  phase := 31
  turn := 0
  synth := {
    waveform := wfNone, pulseWidth := pwReset, filterCutoff := 0, resonance := 0, filterType := ftLowPass,
    oscillator3Mode := o3None, gateOff := false, freq1 := 0, freq2 := 0, freq3 := 0 }
  tuning := { offset := offDefault, mode := false, off0 := 0 }
  switchMask := 0
  ignoreMask := 0
  flags := {
    ctrlDirty := true, ctrlResync := false, filterDirty := true, cachesValid := false, offsetChanged := false }
  mux := { sel := 0, selCh := 0, settled := false }
  pins := { bus := 0, ale := !c.aleActive, csN := true, latch := 0 }
  led := { byte := 0, sync := false }
  irq := { pending := false, tickMasked := true, saved := false }
  mem := { chip := [], nvBytes := [], nvWords := [] }
  inputs := { events := [], adc := [], taken := 0 }
  request := none
  result := 0
  out := []

/-- The machine right after reset, under the reference configuration and with an erased store (R33, R46, log 1). -/
def State.reset : State := State.resetWith Config.ref

end Sys2Proof.Machine
end

