-- ==== Sys2Proof/Machine/Ops.lean ====
section
/-! DEFINITION. Machine/Ops.lean: the named operations over registers, pins, memory and the environment that every
meaning is built from; tick entry and return and reset entry, which stand where a processor takes and leaves an
exception (60_exceptions.md R177 to R179, 70_reset_and_hazards.md R191). -/

namespace Sys2Proof.Machine

/-- A result of the machine: a value, a fault or a refusal. -/
abbrev Res (α : Type) := Host.Outcome α Fault Refusal

/-- Run `f` on the value of `o`, if it has one. -/
def andThen {α β : Type} (o : Res α) (f : α → Res β) : Res β :=
  match o with
  | .next a => f a
  | .fault r => .fault r
  | .refused r => .refused r

/-! ## One update per field of State -/

/-- `s` with `x` replaced. -/
def setX (v : PerInput Sample) (s : State) : State := { s with x := v }
/-- `s` with `phase` replaced. -/
def setPhase (v : Phase) (s : State) : State := { s with phase := v }
/-- `s` with `turn` replaced. -/
def setTurn (v : BitVec 2) (s : State) : State := { s with turn := v }
/-- `s` with `synth` replaced. -/
def setSynth (v : Synth) (s : State) : State := { s with synth := v }
/-- `s` with `tuning` replaced. -/
def setTuning (v : Tuning) (s : State) : State := { s with tuning := v }
/-- `s` with `switchMask` replaced. -/
def setSwitchMask (v : SwitchBits) (s : State) : State := { s with switchMask := v }
/-- `s` with `ignoreMask` replaced. -/
def setIgnoreMask (v : SwitchBits) (s : State) : State := { s with ignoreMask := v }
/-- `s` with `flags` replaced. -/
def setFlags (v : Flags) (s : State) : State := { s with flags := v }
/-- `s` with `mux` replaced. -/
def setMux (v : Mux) (s : State) : State := { s with mux := v }
/-- `s` with `pins` replaced. -/
def setPins (v : Pins) (s : State) : State := { s with pins := v }
/-- `s` with `led` replaced. -/
def setLed (v : Led) (s : State) : State := { s with led := v }
/-- `s` with `irq` replaced. -/
def setIrq (v : Irq) (s : State) : State := { s with irq := v }
/-- `s` with `mem` replaced. -/
def setMem (v : Memory) (s : State) : State := { s with mem := v }
/-- `s` with `inputs` replaced. -/
def setInputs (v : Inputs) (s : State) : State := { s with inputs := v }
/-- `s` with `request` replaced. -/
def setRequest (v : Option Call) (s : State) : State := { s with request := v }
/-- `s` with `result` replaced. -/
def setResult (v : BitVec 16) (s : State) : State := { s with result := v }
/-- `s` with `out` replaced. -/
def setOut (v : List Output) (s : State) : State := { s with out := v }

/-! ## The sequencer -/

/-- `phase <- P<p>` (R13): the sequencer goes to the first operation of phase `p`. -/
def goto (p : Phase) (s : State) : State := s |> setPhase p |> setTurn 0

/-- The next operation of the same phase (P4, P14; log 10). -/
def nextTurn (t : BitVec 2) (s : State) : State := s |> setTurn t

/-- An operation invoked by name is done; its invocation no longer stands (log 11). -/
def endCall (s : State) : State := s |> setRequest none

/-- An operation invoked by name is done and hands `r` to its invoker (log 14). -/
def endCallWith (r : BitVec 16) (s : State) : State := s |> setResult r |> setRequest none

/-! ## Outputs -/

/-- Record outputs in the order the environment sees them (R158, log 22). -/
def emit (os : List Output) (s : State) : State := s |> setOut (s.out ++ os)

/-! ## Memory: lists of (address, value) pairs, addresses strictly rising -/

/-- The value listed at `a`. -/
def cellsRead {α : Type} (l : List (Nat × α)) (a : Nat) : Option α :=
  match l with
  | [] => none
  | (b, v) :: rest => if b = a then some v else cellsRead rest a

/-- The list with `v` at `a`, in address order. -/
def cellsInsert {α : Type} (l : List (Nat × α)) (a : Nat) (v : α) : List (Nat × α) :=
  match l with
  | [] => [(a, v)]
  | (b, w) :: rest =>
    if a < b then (a, v) :: (b, w) :: rest
    else if a = b then (a, v) :: rest
    else (b, w) :: cellsInsert rest a v

/-- The list with nothing at `a`. -/
def cellsErase {α : Type} (l : List (Nat × α)) (a : Nat) : List (Nat × α) :=
  match l with
  | [] => []
  | (b, w) :: rest => if b = a then cellsErase rest a else (b, w) :: cellsErase rest a

/-- Every address is above `a`, and they rise strictly. -/
def risingAbove {α : Type} (a : Nat) (l : List (Nat × α)) : Bool :=
  match l with
  | [] => true
  | (b, _) :: rest => decide (a < b) && risingAbove b rest

/-- Addresses rise strictly. -/
def rising {α : Type} (l : List (Nat × α)) : Bool :=
  match l with
  | [] => true
  | (b, _) :: rest => risingAbove b rest

/-- What an unlisted byte location of the store reads as: "the erased content of a byte is the sentinel 0xFF" (R46). -/
def nvErasedByte : Byte := nvSentinel

/-- The canonical form of memory: addresses strictly rising, chip addresses of 5 bits (R42), and no store byte listed
that equals what an unlisted one reads as. -/
def memoryWf (m : Memory) : Bool :=
  rising m.chip && m.chip.all (fun c => decide (c.1 < 32))
    && rising m.nvBytes && m.nvBytes.all (fun c => c.2 != nvErasedByte)
    && rising m.nvWords

/-- What chip register `a` holds: a value once the block has written it, none before (R35, log 25). -/
def chipRead (m : Memory) (a : ChipAddr) : Option Byte := cellsRead m.chip a.toNat

/-- `chip[a] <- d`, every other chip register unchanged (R126). -/
def chipWrite (m : Memory) (a : ChipAddr) (d : Byte) : Memory :=
  { m with chip := cellsInsert m.chip a.toNat d }

/-- `loadByte(addr)`: what the last save stored, else the erased content (R46). -/
def nvReadByte (m : Memory) (a : Nat) : Byte := (cellsRead m.nvBytes a).getD nvErasedByte

/-- `saveByte(addr, b)` (R46). -/
def nvWriteByte (m : Memory) (a : Nat) (b : Byte) : Memory :=
  { m with nvBytes := if b = nvErasedByte then cellsErase m.nvBytes a else cellsInsert m.nvBytes a b }

/-- `loadWord(addr)`: what the last save stored, else a free value (R46, 93 U10, log 23). -/
def nvReadWord (m : Memory) (a : Nat) : BitVec 16 := (cellsRead m.nvWords a).getD (Config.erasedWord a)

/-- `saveWord(addr, w)` (R46, R48). -/
def nvWriteWord (m : Memory) (a : Nat) (w : BitVec 16) : Memory :=
  { m with nvWords := cellsInsert m.nvWords a w }

/-! ## The interrupt mask around a save (R204) -/

/-- `IntDisable`: `saved <- tickMasked ; tickMasked <- 1`. -/
def intDisable (s : State) : State :=
  s |> setIrq { s.irq with saved := s.irq.tickMasked, tickMasked := true }

/-- `IntRestore`: `tickMasked <- saved`. -/
def intRestore (s : State) : State :=
  s |> setIrq { s.irq with tickMasked := s.irq.saved }

/-- `IntDisable ; MemWrite(NV, a, 8, b) ; IntRestore` (R156). -/
def saveByteMasked (a : Nat) (b : Byte) (s : State) : State :=
  let s := intDisable s
  let s := s |> setMem (nvWriteByte s.mem a b) |> emit [.saveByte a b]
  intRestore s

/-- `IntDisable ; MemWrite(NV, a, 16, w) ; IntRestore` (R131). -/
def saveWordMasked (a : Nat) (w : BitVec 16) (s : State) : State :=
  let s := intDisable s
  let s := s |> setMem (nvWriteWord s.mem a w) |> emit [.saveWord a w]
  intRestore s

/-! ## The multiplexer and the converter (R90, R91) -/

/-- `MUX.SEL ch` (R90): drive the select lines, wait `T_SETTLE`, settled. -/
def selectChannel (ch : ChannelId) (s : State) : State :=
  let s := s |> setMux { sel := ch, selCh := ch, settled := false } |> emit [.select ch]
  let s := s |> emit [.settle s.cfg.tSettle]
  s |> setMux { s.mux with settled := true }

/-- One answer of the converter is used up (log 7). -/
def sampleTaken (rest : List AdcAnswer) (s : State) : State :=
  s |> setInputs { s.inputs with adc := rest, taken := s.inputs.taken + 1 } |> emit [.convert s.mux.selCh]

/-- `MUX.RDA` (R91): a 10-bit sample of the selected channel, supplied by the environment at this moment; with nothing
scripted it is a free value (log 7). `settled = 0` is refused; a converter that never answers is `HwUnavailable`. -/
def readAnalog (s : State) : Res (State × Sample) :=
  if s.mux.settled then
    match s.inputs.adc with
    | [] => .next (sampleTaken [] s, Config.freeSample s.inputs.taken)
    | .sample v :: rest => .next (sampleTaken rest s, v)
    | .never :: _ => .fault .hwUnavailable
  else .refused .notSettled

/-- `MUX.SEL CH[i] ; x[i] <- MUX.RDA` for each input in order (R93). -/
def scanInputs (is : List Input) (s : State) : Res State :=
  match is with
  | [] => .next s
  | i :: rest =>
    andThen (readAnalog (selectChannel (inputGet s.cfg.ch i) s)) fun r =>
      scanInputs rest (r.1 |> setX (inputSet r.1.x i r.2))

/-! ## The register write driver (R120 to R126) -/

/-- The precondition of `DRV.WR`: `CS_N = 1` and `ALE` deasserted (R120). -/
def driverIdle (s : State) : Bool := s.pins.csN && (s.pins.ale == !s.cfg.aleActive)

/-- A pin event is on the pins: record it with the levels after it (R126). -/
def pinEvent (what : PinStep) (s : State) : State :=
  s |> emit [.pin what s.pins.bus s.pins.ale s.pins.csN]

/-- `B1(a) = zext_8(a[3:0])`: the byte of step 1 (R76, R121). -/
def busNibble (a : ChipAddr) : Byte := (a.extractLsb' 0 4).setWidth 8

/-- `B2(a)`: the byte of step 2, an OPEN encoding (R76, R122). -/
def busLatch (c : Config) (a : ChipAddr) : Byte := c.b2[a.toNat]

/-- Step 1 (R121): present the low nibble with chip select inactive. -/
def drvStep1 (a : ChipAddr) (s : State) : State :=
  s |> setPins { s.pins with bus := busNibble a } |> pinEvent .presentNibble

/-- Step 2 (R122): present the latch byte, assert the strobe, hold, latch, deassert. -/
def drvStep2 (a : ChipAddr) (s : State) : State :=
  let s := s |> setPins { s.pins with bus := busLatch s.cfg a } |> pinEvent .presentLatch
  let s := s |> setPins { s.pins with ale := s.cfg.aleActive } |> pinEvent .assertStrobe
  let s := s |> pinEvent (.holdStrobe s.cfg.tHold)
  let s := s |> setPins { s.pins with latch := s.pins.bus }
  s |> setPins { s.pins with ale := !s.cfg.aleActive } |> pinEvent .deassertStrobe

/-- Step 3 (R123): present the data, assert chip select, hold, the chip takes the data, deassert. -/
def drvStep3 (a : ChipAddr) (d : Byte) (s : State) : State :=
  let s := s |> setPins { s.pins with bus := d } |> pinEvent .presentData
  let s := s |> setPins { s.pins with csN := false } |> pinEvent .assertSelect
  let s := s |> pinEvent (.holdSelect s.cfg.tHold)
  let s := s |> setMem (chipWrite s.mem a d)
  s |> setPins { s.pins with csN := true } |> pinEvent .deassertSelect

/-- `DRV.WR a, d`, which is `MemWrite(CHIP, a, 8, d)` (R120, R126): the three steps in order; a write begun while the
pins show one in progress is refused (R125). -/
def chipStore (a : ChipAddr) (d : Byte) (s : State) : Res State :=
  if driverIdle s then .next (s |> drvStep1 a |> drvStep2 a |> drvStep3 a d) else .refused .driverBusy

/-- Two register writes, the first complete before the second (R47, R53). -/
def chipStore2 (a : ChipAddr) (d : Byte) (b : ChipAddr) (e : Byte) (s : State) : Res State :=
  andThen (chipStore a d s) (chipStore b e)

/-! ## The debouncer's consume (R102) -/

/-- `DEB.CONSUME m`: `IgnoreMask <- IgnoreMask | m`. -/
def consume (m : SwitchBits) (s : State) : State := s |> setIgnoreMask (s.ignoreMask ||| m)

/-! ## Events: tick entry, tick return, reset entry -/

/-- A tick event arrives (R179): one event is kept pending, a second is lost. -/
def tickArrives (s : State) : State := s |> setIrq { s.irq with pending := true }

/-- A tick is taken when it is pending, not masked and `phase = P0` (R178). -/
def tickReady (s : State) : Bool := s.irq.pending && !s.irq.tickMasked && (s.phase == 0#5)

/-- Tick entry (R178): `pending <- 0 ; phase <- P1`. Nothing is saved. -/
def tickEntry (s : State) : State := s |> setIrq { s.irq with pending := false } |> goto 1

/-- Tick return (R179): `phase <- P0`. -/
def tickReturn (s : State) : State := s |> goto 0

/-- Reset entry (R191, R177): every register takes its reset value, `phase <- P31`, the tick is masked. The store keeps
its contents (R187); the configuration, the environment's inputs and the record of outputs are not the block's. What the
chip holds is unspecified again (R33). -/
def resetEntry (s : State) : State :=
  State.resetWith s.cfg
    |> setMem { s.mem with chip := [] }
    |> setInputs s.inputs
    |> setOut s.out

end Sys2Proof.Machine
end

