-- ==== Sys2Proof/Machine/Operands.lean ====
section
/-! DEFINITION. Machine/Operands.lean: how each value is assembled from samples and registers (30_encoding.md R62,
R65 to R77), the switch queries (R101) and the table lookup (R110). All arithmetic is over the integers and narrowed
at the end (R159). -/

namespace Sys2Proof.Machine

/-- `clamp(lo, hi, v)` over the integers (R8). -/
def clamp (lo hi v : Int) : Int := if v < lo then lo else if hi < v then hi else v

/-! ## Switches -/

/-- A digital read: `sample > 512` (R92). -/
def pressed (v : Sample) : Bool := decide (digThresh < v.toNat)

/-- The bit of switch `x` in a mask (R81). -/
def maskBit (m : SwitchBits) (x : Switch) : Bool := (m &&& switchBit x) != 0#3

/-- `held(X)` (R101). -/
def held (s : State) (x : Switch) : Bool := maskBit s.switchMask x

/-- `ignored(X)` (R101). -/
def ignored (s : State) (x : Switch) : Bool := maskBit s.ignoreMask x

/-- `fresh(X)`: pressed and not yet acted on (R101). -/
def fresh (s : State) (x : Switch) : Bool := held s x && !ignored s x

/-- The switch decode word `t g iR iW iF sR sW sF` (R62). -/
def swdWord (s : State) : BitVec 8 :=
  BitVec.ofBool s.tuning.mode ++ BitVec.ofBool s.synth.gateOff ++ s.ignoreMask ++ s.switchMask

/-- `SwitchMask` from the three switch samples (R100). -/
def switchMaskOf (x : PerInput Sample) : SwitchBits :=
  BitVec.ofBool (pressed x.sR) ++ BitVec.ofBool (pressed x.sW) ++ BitVec.ofBool (pressed x.sF)

/-! ## Tuning -/

/-- `clamp(0, 613, TuningOffset + d)`, over the integers before narrowing (R132, R133, R159). -/
def offsetMoved (off : BitVec 10) (d : Int) : BitVec 10 :=
  BitVec.ofNat 10 (clamp offMin offMax (off.toNat + d)).toNat

/-- The persisted word read as two's complement and clamped to the offset's bounds (R190, D37). -/
def offsetLoaded (w : BitVec 16) : BitVec 10 := BitVec.ofNat 10 (clamp offMin offMax w.toInt).toNat

/-! ## Waveform and oscillator 3 -/

/-- The next waveform: `w << 1` in 9 bits, TRIANGLE if that exceeds 0x80 (R138). -/
def nextWaveform (w : Byte) : Byte :=
  let n : BitVec 9 := w.setWidth 9 <<< 1
  if 0x80 < n.toNat then wfTriangle else n.setWidth 8

/-- The band of the waveform pot, ascending noise, triangle, sawtooth, pulse (R139). -/
def potBand (c : Config) (v : Sample) : Byte :=
  if c.wfPulse.toNat < v.toNat then wfPulse
  else if c.wfSaw.toNat < v.toNat then wfSawtooth
  else if c.wfTri.toNat < v.toNat then wfTriangle
  else wfNoise

/-- The next oscillator-3 mode: `(mode + 1) mod 3` (R140). -/
def nextO3 (m : BitVec 2) : BitVec 2 := BitVec.ofNat 2 ((m.toNat + 1) % 3)

/-- The mode the ring/sync CV forces, none in the dead zone (R141). -/
def cvBand (v : Sample) : Option (BitVec 2) :=
  if o3Hi < v.toNat then some o3Ring
  else if o3Mid < v.toNat then some o3Sync
  else if o3Lo < v.toNat then none
  else some o3None

/-- The effective waveform `wfe`: TRIANGLE while the mode is RING (R67, R150). -/
def effectiveWaveform (y : Synth) : Byte := if y.oscillator3Mode = o3Ring then wfTriangle else y.waveform

/-! ## Data bytes of the chip -/

/-- The control byte `wfe | (ring << 2) | (sync << 1) | gate` (R67, R150). -/
def controlByte (y : Synth) : Byte :=
  effectiveWaveform y
    ||| ((BitVec.ofBool (y.oscillator3Mode = o3Ring)).setWidth 8 <<< 2)
    ||| ((BitVec.ofBool (y.oscillator3Mode = o3Sync)).setWidth 8 <<< 1)
    ||| (BitVec.ofBool (!y.gateOff)).setWidth 8

/-- The filter mode byte `FMODE[filterType] | MODE_LOW` (R151). -/
def modeByte (c : Config) (t : BitVec 2) : Byte := c.fmode[t.toNat] ||| c.modeLow.setWidth 8

/-- The resonance byte `(r << 4) | RES_LOW` (R155). -/
def resonanceByte (c : Config) (r : Resonance) : Byte := (r.setWidth 8 <<< 4) ||| c.resLow.setWidth 8

/-- The low and high byte of a frequency value (R70). -/
def freqLow (v : FreqValue) : Byte := v.extractLsb' 0 8
def freqHigh (v : FreqValue) : Byte := v.extractLsb' 8 8

/-- The two bytes of the pulse width: `p[7:0]` and `0b0000 ++ p[11:8]` (R71). -/
def pulseLow (p : PulseWidth) : Byte := p.extractLsb' 0 8
def pulseHigh (p : PulseWidth) : Byte := (p.extractLsb' 8 4).setWidth 8

/-- The two bytes of the cutoff: `0b00000 ++ c[2:0]` and `c[10:3]` (R72). -/
def cutoffLow (v : BitVec 11) : Byte := (v.extractLsb' 0 3).setWidth 8
def cutoffHigh (v : BitVec 11) : Byte := v.extractLsb' 3 8

/-! ## Values that follow the analog inputs -/

/-- `clamp(160, 4095, zext_12(x[8]) << PW_SHIFT)` (R153). -/
def pulseWidthOf (v : Sample) : PulseWidth :=
  BitVec.ofNat 12 (clamp pwMin pwMax (v.setWidth 12 <<< pwShift).toNat).toNat

/-- `max(0, 2 * zext_11(x[9]))` (R154). -/
def cutoffOf (v : Sample) : BitVec 11 := BitVec.ofNat 11 (max 0 (2 * ((v.setWidth 11).toNat : Int))).toNat

/-- `min(15, x[10] >> RES_SHIFT)` (R155). -/
def resonanceOf (v : Sample) : Resonance := BitVec.ofNat 4 (min 15 (v >>> resShift).toNat)

/-- The table index `zext_11(raw) + zext_11(off)`, which never wraps (R110). -/
def tableIndex (raw off : BitVec 10) : Nat := (raw.setWidth 11 + off.setWidth 11).toNat

/-- `FT.XLT raw, off` (R110): `MemRead(TAB, idx, 16)`, or `TableRange(idx)` past the table's end (R172). -/
def tableLookup (c : Config) (raw off : BitVec 10) : Res FreqValue :=
  match c.tab[tableIndex raw off]? with
  | some v => .next v
  | none => .fault (.tableRange (tableIndex raw off))

/-! ## The settings byte (R68) and the LED byte (R69, R157) -/

/-- `pack(S) = S.waveform[7:4] ++ S.filterType ++ S.oscillator3Mode` (R68). -/
def pack (y : Synth) : Byte := y.waveform.extractLsb' 4 4 ++ y.filterType ++ y.oscillator3Mode

/-- The waveform of a settings byte: the nibble with a zero low half if it is 1, 2, 4 or 8, else NONE (R68). -/
def unpackWaveform (b : Byte) : Byte :=
  let n := b.extractLsb' 4 4
  if n = 1#4 ∨ n = 2#4 ∨ n = 4#4 ∨ n = 8#4 then n ++ 0#4 else wfNone

/-- The filter type of a settings byte (R68). -/
def unpackFilter (b : Byte) : BitVec 2 := b.extractLsb' 2 2

/-- The oscillator-3 mode of a settings byte: NONE in place of the invalid code 3 (R68). -/
def unpackO3 (b : Byte) : BitVec 2 := if b.extractLsb' 0 2 = 3#2 then o3None else b.extractLsb' 0 2

/-- The waveform LEDs: none with the gate off, TRIANGLE in RING, else the waveform (R157). -/
def waveformLeds (y : Synth) : Byte :=
  if y.gateOff then 0x00 else if y.oscillator3Mode = o3Ring then wfTriangle else y.waveform

/-- The RING LED, bit 3 (R157). -/
def ringLed (y : Synth) : Byte := if y.oscillator3Mode = o3Ring then 0x08 else 0x00

/-- The LED byte and the sync line (R157). -/
def ledOf (tuning : Bool) (y : Synth) : Led :=
  if tuning then { byte := 0xFF, sync := true }
  else { byte := waveformLeds y ||| ringLed y ||| fled y.filterType, sync := decide (y.oscillator3Mode = o3Sync) }

/-! ## Caches of the frequency channels (R20) -/

/-- `S.freqChannel[k]`. -/
def freqCache (y : Synth) (k : FreqCh) : Sample :=
  match k with
  | .one => y.freq1
  | .two => y.freq2
  | .three => y.freq3

/-- `S.freqChannel[k] <- v`. -/
def withFreqCache (y : Synth) (k : FreqCh) (v : Sample) : Synth :=
  match k with
  | .one => { y with freq1 := v }
  | .two => { y with freq2 := v }
  | .three => { y with freq3 := v }

/-- `A_FkLO` and `A_FkHI` (R43). -/
def freqLowAddr (c : Config) (k : FreqCh) : ChipAddr :=
  match k with
  | .one => c.addr.f1lo
  | .two => c.addr.f2lo
  | .three => c.addr.f3lo
def freqHighAddr (c : Config) (k : FreqCh) : ChipAddr :=
  match k with
  | .one => c.addr.f1hi
  | .two => c.addr.f2hi
  | .three => c.addr.f3hi

end Sys2Proof.Machine
end

