-- ==== Sys2Proof/Machine/Flags.lean ====
section
/-! DEFINITION. Machine/Flags.lean: the write-request flags (10_state.md R25), cache validity (R26), the offset flag
(R27) and the two helpers that turn a transition into a flag (44_control_state_machine_switch.md R142). -/

namespace Sys2Proof.Machine

/-- `ctrlDirty <- 1`. -/
def raiseCtrl (s : State) : State := s |> setFlags { s.flags with ctrlDirty := true }

/-- `ctrlDirty <- 1 ; ctrlResync <- 1`. -/
def raiseCtrlResync (s : State) : State := s |> setFlags { s.flags with ctrlDirty := true, ctrlResync := true }

/-- `ctrlDirty <- 0 ; ctrlResync <- 0` (R150). -/
def clearCtrl (s : State) : State := s |> setFlags { s.flags with ctrlDirty := false, ctrlResync := false }

/-- `filterDirty <- 1` (R135). -/
def raiseFilter (s : State) : State := s |> setFlags { s.flags with filterDirty := true }

/-- `filterDirty <- 0` (R151). -/
def clearFilter (s : State) : State := s |> setFlags { s.flags with filterDirty := false }

/-- `cachesValid <- 1` (R155). -/
def validateCaches (s : State) : State := s |> setFlags { s.flags with cachesValid := true }

/-- `offsetChanged <- (TuningOffset != off0)` (R133). -/
def noteOffset (s : State) : State :=
  s |> setFlags { s.flags with offsetChanged := decide (s.tuning.offset ≠ s.tuning.off0) }

/-- `setWaveform(v)` (R142): nothing at all if the register already holds `v`. -/
def setWaveform (v : Byte) (s : State) : State :=
  if v = s.synth.waveform then s
  else s |> setSynth { s.synth with waveform := v } |> raiseCtrl

/-- `setO3(m)` (R142): nothing at all if the register already holds `m`; NONE also raises `ctrlResync`. -/
def setO3 (m : BitVec 2) (s : State) : State :=
  if m = s.synth.oscillator3Mode then s
  else
    let t := s |> setSynth { s.synth with oscillator3Mode := m }
    if m = o3None then raiseCtrlResync t else raiseCtrl t

end Sys2Proof.Machine
end

