-- ==== Sys2Proof/Machine/Debounce.lean ====
section
/-! DEFINITION. Machine/Debounce.lean: the meanings of unit debounce_edge_detector (41_debounce_edge_detector.md R100
to R106) and of the two arms of phase P18, which share their text (R103, 45_control_state_machine_update.md R156). -/

namespace Sys2Proof.Machine

/-- `DEB.LOAD` (R100): `SwitchMask` from `x[0..2]`, then `phase <- P3`. -/
def execDebLoad (s : State) : Res State :=
  .next (s |> setSwitchMask (switchMaskOf s.x) |> goto 3)

/-- `DEB.FRESH X` (R101): the query's answer is the result; it "reads only; writes nothing". -/
def execDebFresh (x : Switch) (s : State) : Res State :=
  .next (s |> endCallWith ((BitVec.ofBool (fresh s x)).setWidth 16))

/-- `DEB.CONSUME m` (R102). -/
def execDebConsume (m : SwitchBits) (s : State) : Res State :=
  .next (s |> consume m |> endCall)

/-- The release arm of P18: `IgnoreMask <- 0` (R103). -/
def releaseAll (s : State) : State := s |> setIgnoreMask 0

/-- The persist arm of P18: the settings byte is saved with the tick masked (R156). -/
def persistSettings (s : State) : State := s |> saveByteMasked s.cfg.nvSettings (pack s.synth)

/-- `DEB.RELEASE` (R103): release if no switch is pressed, else persist, then `phase <- P19`. -/
def execDebRelease (s : State) : Res State :=
  .next ((if s.switchMask = 0#3 then releaseAll s else persistSettings s) |> goto 19)

/-- `NV.PERSIST` (R156): persist if some switch is pressed, else release, then `phase <- P19`. -/
def execNvPersist (s : State) : Res State :=
  .next ((if s.switchMask ≠ 0#3 then persistSettings s else releaseAll s) |> goto 19)

end Sys2Proof.Machine
end

