-- ==== Sys2Proof/Machine/Driver.lean ====
section
/-! DEFINITION. Machine/Driver.lean: the meanings of unit bit_banged_register_write_driver
(43_register_write_driver.md R120 to R126) and of the fourteen chip commands, each a register write to a named address
(30_encoding.md R63, R67, R70 to R75; 20_memory.md R43). -/

namespace Sys2Proof.Machine

/-- A register write invoked by name. -/
def storeCall (a : ChipAddr) (d : Byte) (s : State) : Res State :=
  andThen (chipStore a d s) fun t => .next (t |> endCall)

/-- `DRV.WR a, d` (R120). -/
def execDrvWr (a : ChipAddr) (d : Byte) (s : State) : Res State := storeCall a d s

/-- `CMD.F1LO` (R70). -/
def execCmdF1lo (v : Byte) (s : State) : Res State := storeCall s.cfg.addr.f1lo v s

/-- `CMD.F1HI` (R70). -/
def execCmdF1hi (v : Byte) (s : State) : Res State := storeCall s.cfg.addr.f1hi v s

/-- `CMD.PWLO` (R71). -/
def execCmdPwlo (p : Byte) (s : State) : Res State := storeCall s.cfg.addr.pwlo p s

/-- `CMD.PWHI` (R71): data `0b0000 ++ p`. -/
def execCmdPwhi (p : BitVec 4) (s : State) : Res State := storeCall s.cfg.addr.pwhi (0#4 ++ p) s

/-- `CMD.CTRL` (R67): data `wwww0rsg`. -/
def execCmdCtrl (w : BitVec 4) (ring sync gate : Bool) (s : State) : Res State :=
  storeCall s.cfg.addr.ctrl (ctrlFields w ring sync gate) s

/-- `CMD.SUS` (R75). -/
def execCmdSus (d : Byte) (s : State) : Res State := storeCall s.cfg.addr.sus d s

/-- `CMD.F2LO` (R70). -/
def execCmdF2lo (v : Byte) (s : State) : Res State := storeCall s.cfg.addr.f2lo v s

/-- `CMD.F2HI` (R70). -/
def execCmdF2hi (v : Byte) (s : State) : Res State := storeCall s.cfg.addr.f2hi v s

/-- `CMD.F3LO` (R70). -/
def execCmdF3lo (v : Byte) (s : State) : Res State := storeCall s.cfg.addr.f3lo v s

/-- `CMD.F3HI` (R70). -/
def execCmdF3hi (v : Byte) (s : State) : Res State := storeCall s.cfg.addr.f3hi v s

/-- `CMD.FCLO` (R72): data `0b00000 ++ c`. -/
def execCmdFclo (c : BitVec 3) (s : State) : Res State := storeCall s.cfg.addr.fclo (0#5 ++ c) s

/-- `CMD.FCHI` (R72). -/
def execCmdFchi (c : Byte) (s : State) : Res State := storeCall s.cfg.addr.fchi c s

/-- `CMD.RES` (R73): data `rrrrllll`. -/
def execCmdRes (r l : BitVec 4) (s : State) : Res State := storeCall s.cfg.addr.res (r ++ l) s

/-- `CMD.MODE` (R74): data `mmmmllll`. -/
def execCmdMode (m l : BitVec 4) (s : State) : Res State := storeCall s.cfg.addr.mode (m ++ l) s

end Sys2Proof.Machine
end

