-- ==== Sys2Proof/Machine/Multiplexer.lean ====
section
/-! DEFINITION. Machine/Multiplexer.lean: the meanings of unit input_multiplexer_sampler
(40_input_multiplexer_sampler.md R90 to R94). -/

namespace Sys2Proof.Machine

/-- `MUX.SEL ch` (R90). -/
def execMuxSel (ch : ChannelId) (s : State) : Res State :=
  .next (s |> selectChannel ch |> endCall)

/-- `MUX.RDA` (R91): the sample is the result. -/
def execMuxRda (s : State) : Res State :=
  andThen (readAnalog s) fun r => .next (r.1 |> endCallWith (r.2.setWidth 16))

/-- `MUX.RDD ch` (R92): select, sample, result 1 if the sample is above 512. -/
def execMuxRdd (ch : ChannelId) (s : State) : Res State :=
  andThen (readAnalog (selectChannel ch s)) fun r =>
    .next (r.1 |> endCallWith ((BitVec.ofBool (pressed r.2)).setWidth 16))

/-- `MUX.SCAN` (R93): all eleven channels once, in index order, then `phase <- P2`. -/
def execMuxScan (s : State) : Res State :=
  andThen (scanInputs inputOrder s) fun t => .next (t |> goto 2)

end Sys2Proof.Machine
end

