-- ==== Sys2Proof/Machine/Reset.lean ====
section
/-! DEFINITION. Machine/Reset.lean: the meaning of `RESET.LOAD` (70_reset_and_hazards.md R190), which validates what
the store holds field by field (60_exceptions.md R173). -/

namespace Sys2Proof.Machine

/-- Waveform, filter type and oscillator-3 mode of settings byte `b`: the defaults of an erased store for the
sentinel, else each field if it is valid (R190). -/
def loadSettings (b : Byte) (y : Synth) : Synth :=
  if b = nvSentinel then
    { y with waveform := wfNone, filterType := ftLowPass, oscillator3Mode := o3None }
  else
    { y with waveform := unpackWaveform b, filterType := unpackFilter b, oscillator3Mode := unpackO3 b }

/-- The offset: 306 beside the sentinel, whatever the word says; else the stored word, clamped (R190). -/
def loadOffset (b : Byte) (w : BitVec 16) : BitVec 10 := if b = nvSentinel then offDefault else offsetLoaded w

/-- The registers `RESET.LOAD` sets to fixed values (R190). -/
def clearRegisters (s : State) : State :=
  s
    |> setSynth { s.synth with
        gateOff := false, pulseWidth := pwReset, filterCutoff := 0, resonance := 0, freq1 := 0, freq2 := 0, freq3 := 0 }
    |> setTuning { s.tuning with mode := false }
    |> setSwitchMask 0
    |> setIgnoreMask 0
    |> setFlags {
        ctrlDirty := true, ctrlResync := false, filterDirty := true, cachesValid := false, offsetChanged := false }
    |> setLed { byte := 0, sync := false }
    |> setMux { s.mux with settled := false }
    |> setPins { s.pins with csN := true, ale := !s.cfg.aleActive }

/-- `RESET.LOAD` (R190): load, clear, `phase <- P0`, tick unmasked. It writes nothing outward. -/
def execResetLoad (s : State) : Res State :=
  let b := nvReadByte s.mem s.cfg.nvSettings
  let t := s |> setSynth (loadSettings b s.synth)
  let t := t |> setTuning { t.tuning with offset := loadOffset b (nvReadWord s.mem s.cfg.nvTuning) }
  let t := clearRegisters t
  .next (t |> setIrq { t.irq with pending := false, tickMasked := false } |> goto 0)

end Sys2Proof.Machine
end

