-- ==== Sys2Proof/Machine/SwitchPhases.lean ====
section
/-! DEFINITION. Machine/SwitchPhases.lean: the tick and the phases P3 to P11 that derive state
(44_control_state_machine_switch.md R130 to R143). Each phase tests the registers as the earlier phases of the tick
left them, does nothing if its condition is false, and always advances. -/

namespace Sys2Proof.Machine

/-- `TICK` (R130, R178): at P0 a pending, unmasked tick is taken; otherwise the block stays idle. -/
def execTick (s : State) : Res State := .next (if tickReady s then tickEntry s else s)

/-! ## Tuning mode (R131 to R133) -/

/-- Variant A: FILTER fresh and RINGSYNC fresh. -/
def toggleA (s : State) : Bool := fresh s .filter && fresh s .ringsync

/-- Variant B: FILTER fresh and RINGSYNC already ignored. -/
def toggleB (s : State) : Bool := fresh s .filter && ignored s .ringsync

/-- Variant M: RINGSYNC fresh and FILTER already ignored, only if `SKEW_MIRROR`. -/
def toggleM (s : State) : Bool := s.cfg.skewMirror && fresh s .ringsync && ignored s .filter

/-- Entering tuning mode: a mode other than NONE is forced to NONE, `ctrlDirty` without `ctrlResync` (R131). -/
def enterTuning (s : State) : State :=
  if s.synth.oscillator3Mode ≠ o3None then
    s |> setSynth { s.synth with oscillator3Mode := o3None } |> raiseCtrl
  else s

/-- Leaving tuning mode: the offset is saved with the tick masked (R131). -/
def leaveTuning (s : State) : State :=
  s |> saveWordMasked s.cfg.nvTuning (s.tuning.offset.setWidth 16)

/-- The body of `TUNE.TOGGLE`: consume FILTER and RINGSYNC, flip `tuningMode`, enter or leave (R131). -/
def toggleTuning (s : State) : State :=
  let s := s |> consume (switchBit .filter ||| switchBit .ringsync)
  let s := s |> setTuning { s.tuning with mode := !s.tuning.mode }
  if s.tuning.mode then enterTuning s else leaveTuning s

/-- Phase P3 under condition `cond`, then `phase <- P4`. -/
def toggleIf (cond : Bool) (s : State) : Res State :=
  .next ((if cond then toggleTuning s else s) |> goto 4)

/-- `TUNE.TOGGLE` (R131): any of the three variants. -/
def execTuneToggle (s : State) : Res State := toggleIf (toggleA s || toggleB s || toggleM s) s

/-- `TUNE.TOGGLE.A` (R131): variant A alone. -/
def execTuneToggleA (s : State) : Res State := toggleIf (toggleA s) s

/-- `TUNE.TOGGLE.B` (R131): variant B alone. -/
def execTuneToggleB (s : State) : Res State := toggleIf (toggleB s) s

/-- `TUNE.TOGGLE.M` (R131): variant M alone. -/
def execTuneToggleM (s : State) : Res State := toggleIf (toggleM s) s

/-- `TUNE.DEC` (R132): keep the offset in `off0`; while tuning and FILTER is held, one step down, clamped. -/
def execTuneDec (s : State) : Res State :=
  let off := if s.tuning.mode && held s .filter then offsetMoved s.tuning.offset (-offStep) else s.tuning.offset
  .next (s |> setTuning { s.tuning with off0 := s.tuning.offset, offset := off } |> nextTurn 1)

/-- `TUNE.INC` (R133): while tuning and RINGSYNC is held, one step up, clamped; `offsetChanged` against `off0`. -/
def execTuneInc (s : State) : Res State :=
  let off := if s.tuning.mode && held s .ringsync then offsetMoved s.tuning.offset offStep else s.tuning.offset
  .next (s |> setTuning { s.tuning with offset := off } |> noteOffset |> goto 5)

/-! ## Gate (R134, R137) -/

/-- The body of `GATE.MUTE` once its events are consumed: with the gate on, mute and zero the sustain register. -/
def muteGate (s : State) : Res State :=
  if s.synth.gateOff then .next s
  else
    let s := s |> setSynth { s.synth with gateOff := true }
    andThen (chipStore s.cfg.addr.sus susOff s) fun t => .next (raiseCtrl t)

/-- `GATE.MUTE` (R134): WAVEFORM fresh and RINGSYNC fresh. -/
def execGateMute (s : State) : Res State :=
  andThen
    (if fresh s .waveform && fresh s .ringsync then
      muteGate (s |> consume (switchBit .waveform ||| switchBit .ringsync))
    else .next s)
    fun t => .next (t |> goto 6)

/-- `GATE.RESTORE` (R137): WAVEFORM fresh with the gate off restores full sustain and asks for a resync. -/
def execGateRestore (s : State) : Res State :=
  andThen
    (if fresh s .waveform && s.synth.gateOff then
      let s := s |> consume (switchBit .waveform)
      let s := s |> setSynth { s.synth with gateOff := false }
      andThen (chipStore s.cfg.addr.sus s.cfg.susFull s) fun t => .next (raiseCtrlResync t)
    else .next s)
    fun t => .next (t |> goto 9)

/-! ## Filter type (R135) -/

/-- `FILT.NEXT` (R135): FILTER fresh outside tuning mode advances the filter type, `(filterType + 1) mod 4`. -/
def execFiltNext (s : State) : Res State :=
  .next
    ((if !s.tuning.mode && fresh s .filter then
      s |> consume (switchBit .filter) |> setSynth { s.synth with filterType := s.synth.filterType + 1 } |> raiseFilter
    else s) |> goto 7)

/-! ## Waveform (R136, R138, R139) -/

/-- `WF.DEFAULT` (R136): a waveform of NONE becomes PULSE. -/
def execWfDefault (s : State) : Res State :=
  .next ((if s.synth.waveform = wfNone then setWaveform wfPulse s else s) |> goto 8)

/-- `WF.NEXT` (R138): WAVEFORM fresh with the gate on doubles the waveform's code, past NOISE back to TRIANGLE. -/
def execWfNext (s : State) : Res State :=
  .next
    ((if fresh s .waveform && !s.synth.gateOff then
      s |> consume (switchBit .waveform) |> setWaveform (nextWaveform s.synth.waveform)
    else s) |> goto 9)

/-- `WF.POT` (R139): a pot above the floor sets the waveform of its band. -/
def execWfPot (s : State) : Res State :=
  .next ((if wfFloor < s.x.aWF.toNat then setWaveform (potBand s.cfg s.x.aWF) s else s) |> goto 10)

/-! ## Oscillator-3 modulation (R140, R141) -/

/-- `O3.NEXT` (R140): RINGSYNC fresh, not tuning and gate on, advances the mode. -/
def execO3Next (s : State) : Res State :=
  .next
    ((if !s.tuning.mode && !s.synth.gateOff && fresh s .ringsync then
      s |> consume (switchBit .ringsync) |> setO3 (nextO3 s.synth.oscillator3Mode)
    else s) |> goto 11)

/-- The mode forced by the ring/sync CV, nothing in the dead zone (R141). -/
def forceO3 (s : State) : State :=
  match cvBand s.x.aRS with
  | some m => setO3 m s
  | none => s

/-- `O3.CV` (R141): outside tuning mode the band of the ring/sync CV forces the mode. -/
def execO3Cv (s : State) : Res State :=
  .next ((if s.tuning.mode then s else forceO3 s) |> goto 12)

end Sys2Proof.Machine
end

