-- ==== Sys2Proof/Machine/Translator.lean ====
section
/-! DEFINITION. Machine/Translator.lean: the meaning of unit frequency_cv_to_register_translator
(42_frequency_translator.md R110 to R112). -/

namespace Sys2Proof.Machine

/-- `FT.XLT raw, off` (R110): the table's value is the result; past the table's end, `TableRange` (R172). -/
def execFtXlt (raw off : BitVec 10) (s : State) : Res State :=
  andThen (tableLookup s.cfg raw off) fun v => .next (s |> endCallWith v)

end Sys2Proof.Machine
end

