-- ==== Sys2Proof/Machine/UpdatePhases.lean ====
section
/-! DEFINITION. Machine/UpdatePhases.lean: the phases P12 to P17 that write to the chip, and P19
(45_control_state_machine_update.md R150 to R159). -/

namespace Sys2Proof.Machine

/-- The control writes of P12: the re-arm byte first if a resync is flagged, then the control byte (R150). -/
def writeControl (s : State) : Res State :=
  if s.flags.ctrlResync then
    chipStore2 s.cfg.addr.ctrl (effectiveWaveform s.synth) s.cfg.addr.ctrl (controlByte s.synth) s
  else chipStore s.cfg.addr.ctrl (controlByte s.synth) s

/-- `CTRL.WR` (R150). -/
def execCtrlWr (s : State) : Res State :=
  andThen
    (if s.flags.ctrlDirty then andThen (writeControl s) fun t => .next (clearCtrl t) else .next s)
    fun t => .next (t |> goto 13)

/-- `FMODE.WR` (R151). -/
def execFmodeWr (s : State) : Res State :=
  andThen
    (if s.flags.filterDirty then
      andThen (chipStore s.cfg.addr.mode (modeByte s.cfg s.synth.filterType) s) fun t => .next (clearFilter t)
    else .next s)
    fun t => .next (t |> goto 14)

/-- Channel `k` is rewritten: the caches hold nothing, the sample moved, or the offset changed (R152). -/
def freqStale (k : FreqCh) (s : State) : Bool :=
  !s.flags.cachesValid || (inputGet s.x (freqInput k) != freqCache s.synth k) || s.flags.offsetChanged

/-- The update of a stale frequency channel: look up, write low then high, cache the raw sample (R152). -/
def writeFreq (k : FreqCh) (s : State) : Res State :=
  let raw := inputGet s.x (freqInput k)
  andThen (tableLookup s.cfg raw s.tuning.offset) fun v =>
    andThen (chipStore2 (freqLowAddr s.cfg k) (freqLow v) (freqHighAddr s.cfg k) (freqHigh v) s) fun t =>
      .next (t |> setSynth (withFreqCache t.synth k raw))

/-- After `k` = 1 and 2 the next channel, after `k` = 3 `phase <- P15` (R152). -/
def afterFreq (k : FreqCh) (s : State) : State :=
  match k with
  | .one => nextTurn 1 s
  | .two => nextTurn 2 s
  | .three => goto 15 s

/-- `FREQ.UPD k` (R152). -/
def execFreqUpd (k : FreqCh) (s : State) : Res State :=
  andThen (if freqStale k s then writeFreq k s else .next s) fun t => .next (afterFreq k t)

/-- `PW.UPD` (R153). -/
def execPwUpd (s : State) : Res State :=
  let p := pulseWidthOf s.x.aPW
  andThen
    (if !s.flags.cachesValid || p != s.synth.pulseWidth then
      andThen (chipStore2 s.cfg.addr.pwlo (pulseLow p) s.cfg.addr.pwhi (pulseHigh p) s) fun t =>
        .next (t |> setSynth { t.synth with pulseWidth := p })
    else .next s)
    fun t => .next (t |> goto 16)

/-- `FC.UPD` (R154). -/
def execFcUpd (s : State) : Res State :=
  let c := cutoffOf s.x.aFC
  andThen
    (if !s.flags.cachesValid || c != s.synth.filterCutoff then
      andThen (chipStore2 s.cfg.addr.fclo (cutoffLow c) s.cfg.addr.fchi (cutoffHigh c) s) fun t =>
        .next (t |> setSynth { t.synth with filterCutoff := c })
    else .next s)
    fun t => .next (t |> goto 17)

/-- `RES.UPD` (R155): the last of the cached updates validates the caches. -/
def execResUpd (s : State) : Res State :=
  let r := resonanceOf s.x.aRES
  andThen
    (if !s.flags.cachesValid || r != s.synth.resonance then
      andThen (chipStore s.cfg.addr.res (resonanceByte s.cfg r) s) fun t =>
        .next (t |> setSynth { t.synth with resonance := r })
    else .next s)
    fun t => .next (t |> validateCaches |> goto 18)

/-- `LED.OUT` (R157): compute and emit the LED byte, MSB first, then the sync line; the tick returns to P0. -/
def execLedOut (s : State) : Res State :=
  let l := ledOf s.tuning.mode s.synth
  .next (s |> setLed l |> emit [.shiftOut .msbFirst l.byte, .syncLine l.sync] |> tickReturn)

end Sys2Proof.Machine
end

