-- ==== Sys2Proof/Machine/Dispatch.lean ====
section
/-! DEFINITION. Machine/Dispatch.lean: the meaning of each operation, one arm per row of the opcode table. -/

namespace Sys2Proof.Machine

def exec (i : Instr) (s : State) : Host.Outcome State Fault Refusal :=
  match i with
  | .muxSel ch => Sys2Proof.Machine.execMuxSel ch s
  | .muxRda => Sys2Proof.Machine.execMuxRda s
  | .muxRdd ch => Sys2Proof.Machine.execMuxRdd ch s
  | .debFresh x => Sys2Proof.Machine.execDebFresh x s
  | .debConsume m => Sys2Proof.Machine.execDebConsume m s
  | .ftXlt raw off => Sys2Proof.Machine.execFtXlt raw off s
  | .drvWr a d => Sys2Proof.Machine.execDrvWr a d s
  | .tick => Sys2Proof.Machine.execTick s
  | .muxScan => Sys2Proof.Machine.execMuxScan s
  | .debLoad => Sys2Proof.Machine.execDebLoad s
  | .tuneToggle => Sys2Proof.Machine.execTuneToggle s
  | .tuneToggleA => Sys2Proof.Machine.execTuneToggleA s
  | .tuneToggleB => Sys2Proof.Machine.execTuneToggleB s
  | .tuneToggleM => Sys2Proof.Machine.execTuneToggleM s
  | .tuneDec => Sys2Proof.Machine.execTuneDec s
  | .tuneInc => Sys2Proof.Machine.execTuneInc s
  | .gateMute => Sys2Proof.Machine.execGateMute s
  | .filtNext => Sys2Proof.Machine.execFiltNext s
  | .wfDefault => Sys2Proof.Machine.execWfDefault s
  | .gateRestore => Sys2Proof.Machine.execGateRestore s
  | .wfNext => Sys2Proof.Machine.execWfNext s
  | .wfPot => Sys2Proof.Machine.execWfPot s
  | .o3Next => Sys2Proof.Machine.execO3Next s
  | .o3Cv => Sys2Proof.Machine.execO3Cv s
  | .ctrlWr => Sys2Proof.Machine.execCtrlWr s
  | .fmodeWr => Sys2Proof.Machine.execFmodeWr s
  | .freqUpd k => Sys2Proof.Machine.execFreqUpd k s
  | .pwUpd => Sys2Proof.Machine.execPwUpd s
  | .fcUpd => Sys2Proof.Machine.execFcUpd s
  | .resUpd => Sys2Proof.Machine.execResUpd s
  | .nvPersist => Sys2Proof.Machine.execNvPersist s
  | .debRelease => Sys2Proof.Machine.execDebRelease s
  | .ledOut => Sys2Proof.Machine.execLedOut s
  | .resetLoad => Sys2Proof.Machine.execResetLoad s
  | .cmdF1lo v => Sys2Proof.Machine.execCmdF1lo v s
  | .cmdF1hi v => Sys2Proof.Machine.execCmdF1hi v s
  | .cmdPwlo p => Sys2Proof.Machine.execCmdPwlo p s
  | .cmdPwhi p => Sys2Proof.Machine.execCmdPwhi p s
  | .cmdCtrl w ring sync gate => Sys2Proof.Machine.execCmdCtrl w ring sync gate s
  | .cmdSus d => Sys2Proof.Machine.execCmdSus d s
  | .cmdF2lo v => Sys2Proof.Machine.execCmdF2lo v s
  | .cmdF2hi v => Sys2Proof.Machine.execCmdF2hi v s
  | .cmdF3lo v => Sys2Proof.Machine.execCmdF3lo v s
  | .cmdF3hi v => Sys2Proof.Machine.execCmdF3hi v s
  | .cmdFclo c => Sys2Proof.Machine.execCmdFclo c s
  | .cmdFchi c => Sys2Proof.Machine.execCmdFchi c s
  | .cmdRes r l => Sys2Proof.Machine.execCmdRes r l s
  | .cmdMode m l => Sys2Proof.Machine.execCmdMode m l s

end Sys2Proof.Machine
end

