-- ==== Sys2Proof/Machine/Fetch.lean ====
section
/-! DEFINITION. Machine/Fetch.lean: what arrives between two operations (60_exceptions.md R175 to R179), which code is
run next (30_encoding.md R80), and where a row's word stands when it is to be run next. -/

namespace Sys2Proof.Machine

/-- The next event of the environment is used up. -/
def dropEvent (rest : List Event) (s : State) : State := s |> setInputs { s.inputs with events := rest }

/-- Something outside the block invokes an operation: refused at every phase (R203, R175, log 11). -/
def invocationArrives (_ : Call) (_ : State) : Res State := .refused .reentry

/-- The environment's event before an operation; with none scripted nothing happens (log 8). A reset event wins over
everything (R177). -/
def arrive (s : State) : Res State :=
  match s.inputs.events with
  | [] => .next s
  | .quiet :: rest => .next (s |> dropEvent rest)
  | .tick :: rest => .next (s |> dropEvent rest |> tickArrives)
  | .reset :: rest => .next (s |> dropEvent rest |> resetEntry)
  | .invoke c :: rest => invocationArrives c (s |> dropEvent rest)

/-- A tick is running: `phase` is one of P1 to P19 (R130). -/
def insideTick (p : Phase) : Bool := p != 0#5 && p != 31#5

/-- The code to run next: an operation the running tick invokes by name (R80; outside a tick it is refused, R203,
log 11), else the sequencer's word, with the `SWD` word "formed afresh from the registers" (R62). -/
def fetchCode (s : State) : Res Code :=
  match s.request with
  | some c => if insideTick s.phase then .next (.call c) else .refused .outsideTick
  | none => .next (.seq s.phase s.turn (swdWord s))

/-- The operation a code selects under the machine's configuration. -/
def decodeCode (c : Config) (k : Code) : Res Instr :=
  match decode c k with
  | .ok i => .next i
  | .error e => .refused (.undecodable e)

/-- No event and no invocation stands before the sequencer at phase `p`, turn `t`. -/
def placeSequencer (p : Phase) (t : BitVec 2) (s : State) : State :=
  s |> setInputs { s.inputs with events := [] } |> setRequest none |> setPhase p |> setTurn t

/-- The registers the `SWD` word is formed from take its bits (R62). -/
def placeSwd (w : BitVec 8) (s : State) : State :=
  s |> setTuning { s.tuning with mode := w.getLsbD 7 }
    |> setSynth { s.synth with gateOff := w.getLsbD 6 }
    |> setIgnoreMask (w.extractLsb' 3 3)
    |> setSwitchMask (w.extractLsb' 0 3)

/-- What the phase of a `PH` row needs besides the phase number: P0 a tick ready to be taken, P3 switch bits that match
no variant's pattern. -/
def placeCondition (p : Phase) (s : State) : State :=
  if p = 0#5 then s |> setIrq { s.irq with pending := true, tickMasked := false }
  else if p = 3#5 then s |> setSwitchMask 0
  else s

/-- A row's word stands where the machine takes its next operation from: the sequencer's registers for a `PH` or `SWD`
word, an invocation inside a tick for a `CMD` word, at P14, a phase whose rule writes registers (log 13). -/
def placeRow (r : RowWord) (s : State) : State :=
  match r with
  | .ph p => s |> placeSequencer p 0 |> placeCondition p
  | .swd p t w => s |> placeSequencer p t |> placeSwd w
  | .call c => s |> placeSequencer 14 0 |> setRequest (some c)

/-- The word of the opcode table `w` of `nbits` bits, placed to be run next; no change if it is no row's word. -/
def placeTableWord (nbits w : Nat) (s : State) : State :=
  match tableRow nbits w with
  | none => s
  | some r => placeRow r s

end Sys2Proof.Machine
end

