-- ==== Sys2Proof/Machine/Step.lean ====
section
/-! DEFINITION. Machine/Step.lean: one step of the machine: an event arrives, a code is fetched and decoded, its
operation runs (44_control_state_machine_switch.md R130, log 10). -/

namespace Sys2Proof.Machine

/-- Fetch, decode and run one operation. -/
def runNext (s : State) : Host.Outcome State Fault Refusal :=
  andThen (fetchCode s) fun k => andThen (decodeCode s.cfg k) fun i => exec i s

/-- One step: the environment's event, then one operation. -/
def step (s : State) : Host.Outcome State Fault Refusal := andThen (arrive s) runNext

/-- `s` with the operation of a row's word standing where `step` takes its next operation from. -/
def State.withFetchWord (s : State) (nbits w : Nat) : State := placeTableWord nbits w s

end Sys2Proof.Machine
end

