-- ==== Sys2Proof/Safety.lean ====
section
/-! DEFINITION. Safety.lean: what counts as a safe state and a safe run, in the terms the statements use: the
invariants of 10_state.md R28, the state a register write leaves (43_register_write_driver.md R120, R126), what the
block never reads back, and what the environment is asked to keep to. -/

namespace Sys2Proof.Machine

/-! ## What a register write leaves -/

/-- The nine pin events of `DRV.WR a, d` as the table of R126 lists them, `ALE` off being `not ALE_ACTIVE`. -/
def pinTrace (c : Config) (a : ChipAddr) (d : Byte) : List Output :=
  let b1 : Byte := 0#4 ++ a.extractLsb' 0 4
  let b2 : Byte := c.b2[a.toNat]
  let on := c.aleActive
  let off := !c.aleActive
  [.pin .presentNibble b1 off true,
   .pin .presentLatch b2 off true,
   .pin .assertStrobe b2 on true,
   .pin (.holdStrobe c.tHold) b2 on true,
   .pin .deassertStrobe b2 off true,
   .pin .presentData d off true,
   .pin .assertSelect d off false,
   .pin (.holdSelect c.tHold) d off false,
   .pin .deassertSelect d off true]

/-- The state after `DRV.WR a, d` by its postcondition: `CS_N = 1`, `ALE` deasserted, `BUS = d`, `LATCH = B2(a)`,
`chip[a] = d` (R120), the nine events of R126 recorded, nothing else changed. -/
def afterStore (a : ChipAddr) (d : Byte) (s : State) : State :=
  { s with
    pins := { bus := d, ale := !s.cfg.aleActive, csN := true, latch := s.cfg.b2[a.toNat] }
    mem := chipWrite s.mem a d
    out := s.out ++ pinTrace s.cfg a d }

/-- How many register writes a record of outputs shows: each ends by deasserting chip select (R126). -/
def writesIn (os : List Output) : Nat :=
  os.countP fun o => match o with
    | .pin .deassertSelect _ _ _ => true
    | _ => false

/-- The outputs of `MUX.SEL ch` followed by `MUX.RDA`, for each channel in order (R90, R91, R158). -/
def scanTrace (c : Config) : List Output :=
  c.ch.toList.flatMap fun ch => [.select ch, .settle c.tSettle, .convert ch]

/-! ## The environment -/

/-- No operation stands invoked by name and nothing outside tries to invoke one: the block runs by itself (R203). -/
def noCalls (s : State) : Bool :=
  s.request.isNone && s.inputs.events.all fun e => match e with
    | .invoke _ => false
    | _ => true

/-- No reset event is still to come. -/
def noResets (s : State) : Bool := s.inputs.events.all fun e => decide (e ≠ .reset)

/-- The converter always answers (R171: "a liveness claim needs that assumption stated"). -/
def converterAnswers (s : State) : Bool := s.inputs.adc.all fun a => decide (a ≠ .never)

/-- The sample the converter will give next: the scripted one, a free value if none is scripted, nothing if it never
answers (R91, R171, log 7). -/
def nextSample (s : State) : Option Sample :=
  match s.inputs.adc with
  | [] => some (Config.freeSample s.inputs.taken)
  | .sample v :: _ => some v
  | .never :: _ => none

/-- The `n`-th sample still to come, a free value beyond the scripted ones (log 7). -/
def sampleAt (s : State) (n : Nat) : Sample :=
  match s.inputs.adc[n]? with
  | some (.sample v) => v
  | some .never => Config.freeSample (s.inputs.taken + n)
  | none => Config.freeSample (s.inputs.taken + n)

/-- The inputs after `n` samples have been taken. -/
def inputsAfter (s : State) (n : Nat) : Inputs :=
  { s.inputs with adc := s.inputs.adc.drop n, taken := s.inputs.taken + n }

/-! ## What the end of P3 and P18 leaves -/

/-- The state after the compound of `TUNE.TOGGLE` has fired (R131): FILTER and RINGSYNC consumed, the mode flipped; on
entering, oscillator 3 forced to NONE with a control byte owed if that changes it; on leaving, the offset saved with the
tick masked (R204). -/
def afterToggle (s : State) : State :=
  if s.tuning.mode then
    { s with
      ignoreMask := s.ignoreMask ||| 0b101#3
      tuning := { s.tuning with mode := false }
      irq := { s.irq with saved := s.irq.tickMasked }
      mem := nvWriteWord s.mem s.cfg.nvTuning (0#6 ++ s.tuning.offset)
      out := s.out ++ [.saveWord s.cfg.nvTuning (0#6 ++ s.tuning.offset)]
      phase := 4
      turn := 0 }
  else
    { s with
      ignoreMask := s.ignoreMask ||| 0b101#3
      tuning := { s.tuning with mode := true }
      synth := { s.synth with oscillator3Mode := 0#2 }
      flags := { s.flags with ctrlDirty := s.flags.ctrlDirty || decide (s.synth.oscillator3Mode ≠ 0#2) }
      phase := 4
      turn := 0 }

/-- The state after P18 (R103, R156): with no switch pressed `IgnoreMask` is cleared, else the settings byte
`waveform[7:4] ++ filterType ++ oscillator3Mode` (R68) is saved with the tick masked (R204). -/
def afterPersist (s : State) : State :=
  if s.switchMask = 0#3 then { s with ignoreMask := 0#3, phase := 19, turn := 0 }
  else
    let b : Byte := s.synth.waveform.extractLsb' 4 4 ++ s.synth.filterType ++ s.synth.oscillator3Mode
    { s with
      irq := { s.irq with saved := s.irq.tickMasked }
      mem := nvWriteByte s.mem s.cfg.nvSettings b
      out := s.out ++ [.saveByte s.cfg.nvSettings b]
      phase := 19
      turn := 0 }

/-! ## Safe states -/

/-- The sequencer holds a value it can hold: phase 0 to 19 or 31 (R13), with a turn the phase has (R64). -/
def sequencerLegal (p : Phase) (t : BitVec 2) : Bool :=
  (decide (p.toNat ≤ 19) || p == 31#5)
    && (t == 0#2 || (p == 4#5 && t == 1#2) || (p == 14#5 && decide (t.toNat ≤ 2)))

/-- One of the five waveform codes (R12, R65). -/
def waveformCode (w : Byte) : Bool :=
  w == wfNone || w == wfTriangle || w == wfSawtooth || w == wfPulse || w == wfNoise

/-- The invariants of R28 and what makes them inductive, at every phase of a tick and between ticks. -/
structure SafeState (s : State) : Prop where
  /-- The configuration keeps the constraints of R7. -/
  config : s.cfg.wf = true
  /-- `phase` "never holds a value other than 0 to 19 and 31" (R13). -/
  sequencer : sequencerLegal s.phase s.turn = true
  /-- An operation invoked by name waits inside a tick only (R203). -/
  invocation : s.request ≠ none → insideTick s.phase = true
  /-- `S.waveform` holds one of the five codes (R12). -/
  waveform : waveformCode s.synth.waveform = true
  /-- "never NONE after the first tick completes": from P8 to P19, and wherever a tick has validated the caches. -/
  waveformSet : (8 ≤ s.phase.toNat ∧ s.phase.toNat ≤ 19) ∨ s.flags.cachesValid = true → s.synth.waveform ≠ wfNone
  /-- `S.pulseWidth` is within 160 to 4095 (R14). -/
  pulseWidth : 160 ≤ s.synth.pulseWidth.toNat ∧ s.synth.pulseWidth.toNat ≤ 4095
  /-- `S.filterCutoff` is within 0 to 2046 (R15). -/
  filterCutoff : s.synth.filterCutoff.toNat ≤ 2046
  /-- Code 3 is never held (R18). -/
  oscillator3 : s.synth.oscillator3Mode ≠ 3#2
  /-- `TuningOffset` is within 0 to 613 (R21). -/
  offset : s.tuning.offset.toNat ≤ 613
  /-- `ctrlResync = 1` implies `ctrlDirty = 1` (R25). -/
  resync : s.flags.ctrlResync = true → s.flags.ctrlDirty = true
  /-- The control flags are clear from P13 to the end of the tick (R25). -/
  ctrlClear : 13 ≤ s.phase.toNat ∧ s.phase.toNat ≤ 19 → s.flags.ctrlDirty = false
  /-- `filterDirty` is clear from P14 to the end of the tick (R25). -/
  filterClear : 14 ≤ s.phase.toNat ∧ s.phase.toNat ≤ 19 → s.flags.filterDirty = false
  /-- `cachesValid` is set from P18 to the end of the tick (R26). -/
  caches : 18 ≤ s.phase.toNat ∧ s.phase.toNat ≤ 19 → s.flags.cachesValid = true
  /-- "between ticks all three are 0" once a first tick has run (R25, R28). -/
  idleClear : s.phase = 0#5 ∧ s.flags.cachesValid = true → s.flags.ctrlDirty = false ∧ s.flags.filterDirty = false
  /-- Outside a register write `ALE` is deasserted and `CS_N` is 1 (R30). -/
  pins : driverIdle s = true
  /-- The tick is masked only until the load ends (R36, R204). -/
  mask : s.phase ≠ 31#5 → s.irq.tickMasked = false
  /-- Memory keeps its canonical form. -/
  memory : memoryWf s.mem = true

/-- "`IgnoreMask` is 0 if `SwitchMask` is 0" at the end of P18 and between ticks (R28), while the environment invokes
nothing. -/
structure MasksReleased (s : State) : Prop where
  quiet : noCalls s = true
  released : s.phase = 19#5 ∨ s.phase = 0#5 → s.switchMask = 0#3 → s.ignoreMask = 0#3

/-! ## What the block never reads back -/

/-- The parts of the state that only leave the block: the LED output "never read by the block" (R31), the chip's
registers "no rule reads" (R35), the bus and the latch (R30), the result handed to an invoker and the record of
outputs. -/
def forgetOutputs (s : State) : State :=
  { s with
    led := { byte := 0, sync := false }
    mem := { s.mem with chip := [] }
    pins := { s.pins with bus := 0, latch := 0 }
    result := 0
    out := [] }

/-- The outcome with `f` applied to a next state. -/
def onNext (f : State → State) (o : Host.Outcome State Fault Refusal) : Host.Outcome State Fault Refusal :=
  match o with
  | .next s => .next (f s)
  | .fault r => .fault r
  | .refused r => .refused r

/-! ## Where an operation stores -/

/-- The chip registers an operation may write, computed from the configuration as its meaning does. -/
def chipTargets (c : Config) (i : Instr) : List ChipAddr :=
  match i with
  | .drvWr a _ => [a]
  | .gateMute => [c.addr.sus]
  | .gateRestore => [c.addr.sus]
  | .ctrlWr => [c.addr.ctrl]
  | .fmodeWr => [c.addr.mode]
  | .freqUpd .one => [c.addr.f1lo, c.addr.f1hi]
  | .freqUpd .two => [c.addr.f2lo, c.addr.f2hi]
  | .freqUpd .three => [c.addr.f3lo, c.addr.f3hi]
  | .pwUpd => [c.addr.pwlo, c.addr.pwhi]
  | .fcUpd => [c.addr.fclo, c.addr.fchi]
  | .resUpd => [c.addr.res]
  | .cmdF1lo _ => [c.addr.f1lo]
  | .cmdF1hi _ => [c.addr.f1hi]
  | .cmdPwlo _ => [c.addr.pwlo]
  | .cmdPwhi _ => [c.addr.pwhi]
  | .cmdCtrl _ _ _ _ => [c.addr.ctrl]
  | .cmdSus _ => [c.addr.sus]
  | .cmdF2lo _ => [c.addr.f2lo]
  | .cmdF2hi _ => [c.addr.f2hi]
  | .cmdF3lo _ => [c.addr.f3lo]
  | .cmdF3hi _ => [c.addr.f3hi]
  | .cmdFclo _ => [c.addr.fclo]
  | .cmdFchi _ => [c.addr.fchi]
  | .cmdRes _ _ => [c.addr.res]
  | .cmdMode _ _ => [c.addr.mode]
  | .muxSel _ => []
  | .muxRda => []
  | .muxRdd _ => []
  | .debFresh _ => []
  | .debConsume _ => []
  | .ftXlt _ _ => []
  | .tick => []
  | .muxScan => []
  | .debLoad => []
  | .tuneToggle => []
  | .tuneToggleA => []
  | .tuneToggleB => []
  | .tuneToggleM => []
  | .tuneDec => []
  | .tuneInc => []
  | .filtNext => []
  | .wfDefault => []
  | .wfNext => []
  | .wfPot => []
  | .o3Next => []
  | .o3Cv => []
  | .nvPersist => []
  | .debRelease => []
  | .ledOut => []
  | .resetLoad => []

/-- The operations that may save the settings byte (R103, R156). -/
def savesSettings (i : Instr) : Bool := i == .nvPersist || i == .debRelease

/-- The operations that may save the offset word (R131). -/
def savesOffset (i : Instr) : Bool :=
  i == .tuneToggle || i == .tuneToggleA || i == .tuneToggleB || i == .tuneToggleM

end Sys2Proof.Machine
end

