-- ==== Sys2Proof/Certificates/Slice0/Obligations.lean ====
section
/-! DEFINITION. Certificates/Slice0/Obligations.lean: the statements for the provers. A statement that gives `exec i s`
as an equation says what the operation does, that it completes there, and its frame: every field not named in the
record is unchanged. `turn := 0` beside a phase is the model's own sequencer (log 10). -/

open Sys2Proof Sys2Proof.Machine

/-! ## Selecting and decoding -/

/-- The model's step: with no event, the operation the code selects runs on the state as it is; an event lands before
it (log 8). The four clauses are: the sequencer's word, an operation the running tick invokes by name (log 11), a quiet
event, a tick event. (A reset event is `ResetEventForgetsAllButTheStore`, an invocation from outside
`NothingOutsideTheTickTouchesTheBlock`.) -/
def Obligations.StepRunsTheSelectedOperation : Prop :=
  (∀ (s : State) (i : Instr), s.inputs.events = [] → s.request = none →
      decode s.cfg (.seq s.phase s.turn (swdWord s)) = .ok i → step s = exec i s)
    ∧ (∀ (s : State) (c : Call) (i : Instr), s.inputs.events = [] → s.request = some c → s.phase ≠ 0#5 →
        s.phase ≠ 31#5 → decode s.cfg (.call c) = .ok i → step s = exec i s)
    ∧ (∀ (s : State) (es : List Event) (i : Instr), s.inputs.events = .quiet :: es → s.request = none →
        decode s.cfg (.seq s.phase s.turn (swdWord s)) = .ok i →
        step s = exec i { s with inputs := { s.inputs with events := es } })
    ∧ (∀ (s : State) (es : List Event) (i : Instr), s.inputs.events = .tick :: es → s.request = none →
        decode s.cfg (.seq s.phase s.turn (swdWord s)) = .ok i →
        step s = exec i { s with inputs := { s.inputs with events := es }, irq := { s.irq with pending := true } })

/-- Nine words written out from the patterns of R61, R62, R63 and R64 select the operations they stand for. The model's
choices in them: that a bare 8-bit number such as 0x05 or 0x42 is read as an `SWD` row without its phase is the reading
order of log 13 (DESIGN CHOICE); the tags that tell a select and a `DRV.WR` operand from a command are log 12 (DESIGN
CHOICE); the address bits of the command words are those of `CFG_REF` (log 2, PRESUMED). -/
def Obligations.WrittenOutWordsDecode : Prop :=
  decodeTableWord 8 0b00001 = some .muxScan
    ∧ decodeTableWord 8 0b10011 = some .ledOut
    ∧ decodeTableWord 8 0b00000101 = some .tuneToggleA
    ∧ decodeTableWord 8 0b01000010 = some .gateRestore
    ∧ decodeTableWord 16 0x0441 = some (.cmdCtrl 4 false false true)
    ∧ decodeTableWord 16 0x181F = some (.cmdMode 1 0xF)
    ∧ decode Config.ref (.seq 10 0 0b00000100) = .ok .o3Next
    ∧ decode Config.ref (.call (.sel 0b0101)) = .ok (.muxSel 5)
    ∧ decode Config.ref (.call (.drv 0x0441)) = .ok (.drvWr 4 0x41)

/-- Decode and encode agree: for every configuration within the constraints of R7 and every well-formed operation, with
every operand, the code the encoder writes selects that operation. -/
def Obligations.DecodeOfEncodeIsTheOperation : Prop :=
  ∀ (c : Config) (i : Instr), c.wf = true → i.wellFormed c = true → decode c (encode c i) = .ok i

/-- Which operation each sequencer position selects, for every switch decode word `w`: the table of R64 in the order of
R130, with P3, P8 and P18 decided by the word (R62, log 34, log 35). A phase has the turns its operations need, one for
each (log 10, DESIGN CHOICE). R64 and R78 say that 20 to 30 are never held and that nothing traps on an encoding; that the
decoder rejects such a phase, and a turn a phase does not have, by name is log 33 (DESIGN CHOICE). -/
def Obligations.SequencerCodesAreTotalOnLegalPositions : Prop :=
  ∀ (c : Config) (w : BitVec 8),
    (decode c (.seq 0 0 w) = .ok .tick ∧ decode c (.seq 1 0 w) = .ok .muxScan ∧ decode c (.seq 2 0 w) = .ok .debLoad)
      ∧ decode c (.seq 3 0 w) = .ok
          (if w &&& 0x2D = 0x05 then .tuneToggleA
          else if w &&& 0x29 = 0x21 then .tuneToggleB
          else if c.skewMirror = true ∧ w &&& 0x2C = 0x0C then .tuneToggleM
          else .tuneToggle)
      ∧ (decode c (.seq 4 0 w) = .ok .tuneDec ∧ decode c (.seq 4 1 w) = .ok .tuneInc)
      ∧ (decode c (.seq 5 0 w) = .ok .gateMute ∧ decode c (.seq 6 0 w) = .ok .filtNext
        ∧ decode c (.seq 7 0 w) = .ok .wfDefault)
      ∧ decode c (.seq 8 0 w) = .ok (if w.getLsbD 6 = true then .gateRestore else .wfNext)
      ∧ (decode c (.seq 9 0 w) = .ok .wfPot ∧ decode c (.seq 10 0 w) = .ok .o3Next ∧ decode c (.seq 11 0 w) = .ok .o3Cv
        ∧ decode c (.seq 12 0 w) = .ok .ctrlWr ∧ decode c (.seq 13 0 w) = .ok .fmodeWr)
      ∧ (decode c (.seq 14 0 w) = .ok (.freqUpd .one) ∧ decode c (.seq 14 1 w) = .ok (.freqUpd .two)
        ∧ decode c (.seq 14 2 w) = .ok (.freqUpd .three))
      ∧ (decode c (.seq 15 0 w) = .ok .pwUpd ∧ decode c (.seq 16 0 w) = .ok .fcUpd ∧ decode c (.seq 17 0 w) = .ok .resUpd)
      ∧ decode c (.seq 18 0 w) = .ok (if w &&& 0x07 = 0x00 then .debRelease else .nvPersist)
      ∧ (decode c (.seq 19 0 w) = .ok .ledOut ∧ decode c (.seq 31 0 w) = .ok .resetLoad)
      ∧ (∀ (p : Phase) (t : BitVec 2),
        (decode c (.seq p t w) = .error (.phaseNeverHeld p) ↔ 20 ≤ p.toNat ∧ p.toNat ≤ 30)
          ∧ (sequencerLegal p t = true ↔ ∃ i, decode c (.seq p t w) = .ok i)
          ∧ (sequencerLegal p t = false → ¬(20 ≤ p.toNat ∧ p.toNat ≤ 30) →
            decode c (.seq p t w) = .error (.turnNeverHeld p t)))

/-- The switch decode word holds `t g iR iW iF sR sW sF` of the registers as they are, and each pattern of R62 matches it
exactly when the condition the table gives in words holds. -/
def Obligations.SwitchPatternsMeanTheirConditions : Prop :=
  ∀ s : State,
    ((swdWord s).getLsbD 7 = s.tuning.mode ∧ (swdWord s).getLsbD 6 = s.synth.gateOff
        ∧ (swdWord s).extractLsb' 3 3 = s.ignoreMask ∧ (swdWord s).extractLsb' 0 3 = s.switchMask)
      ∧ (swdWord s &&& 0x2D = 0x05 ↔ fresh s .filter = true ∧ fresh s .ringsync = true)
      ∧ (swdWord s &&& 0x29 = 0x21 ↔ fresh s .filter = true ∧ ignored s .ringsync = true)
      ∧ (swdWord s &&& 0x2C = 0x0C ↔ fresh s .ringsync = true ∧ ignored s .filter = true)
      ∧ (swdWord s &&& 0x81 = 0x81 ↔ s.tuning.mode = true ∧ held s .filter = true)
      ∧ (swdWord s &&& 0x84 = 0x84 ↔ s.tuning.mode = true ∧ held s .ringsync = true)
      ∧ (swdWord s &&& 0x36 = 0x06 ↔ fresh s .waveform = true ∧ fresh s .ringsync = true)
      ∧ (swdWord s &&& 0x89 = 0x01 ↔ s.tuning.mode = false ∧ fresh s .filter = true)
      ∧ (swdWord s &&& 0x52 = 0x42 ↔ s.synth.gateOff = true ∧ fresh s .waveform = true)
      ∧ (swdWord s &&& 0x52 = 0x02 ↔ s.synth.gateOff = false ∧ fresh s .waveform = true)
      ∧ (swdWord s &&& 0xE4 = 0x04 ↔ s.tuning.mode = false ∧ s.synth.gateOff = false ∧ fresh s .ringsync = true)
      ∧ (swdWord s &&& 0x07 = 0x00 ↔ ∀ x, held s x = false)
      ∧ (swdWord s &&& 0x07 ≠ 0x00 ↔ ∃ x, held s x = true)

/-! ## The multiplexer and the converter -/

/-- `MUX.SEL ch` (R90), for every channel, the one already selected too: the lines and `selCh` take the id, the full
delay passes, `settled` is 1.
The model's own fields: `request` (log 11), `out` (log 22). -/
def Obligations.MuxSelDrivesTheLinesAndSettles : Prop :=
  ∀ (s : State) (ch : ChannelId),
    exec (.muxSel ch) s = .next { s with
      mux := { sel := ch, selCh := ch, settled := true }
      out := s.out ++ [.select ch, .settle s.cfg.tSettle]
      request := none }

/-- `MUX.RDA` (R91): from a settled line the environment's sample is the result; a converter that never answers is
`HwUnavailable` (R171); an unsettled line is refused. The sample beyond the scripted ones is a free value (log 7), and
the result field is the model's own (log 14).
The model's own fields: `request` (log 11), `result` (log 14), `out` (log 22). -/
def Obligations.MuxRdaReturnsTheSample : Prop :=
  ∀ s : State,
    (∀ v, s.mux.settled = true → nextSample s = some v →
        exec .muxRda s = .next { s with
          inputs := inputsAfter s 1
          out := s.out ++ [.convert s.mux.selCh]
          result := 0#6 ++ v
          request := none })
      ∧ (s.mux.settled = true → nextSample s = none → exec .muxRda s = .fault .hwUnavailable)
      ∧ (s.mux.settled = false → exec .muxRda s = .refused .notSettled)

/-- `MUX.RDD ch` (R92): select, sample, and the result is 1 exactly when the sample is above 512.
The model's own fields: `request` (log 11), `result` (log 14), `out` (log 22). -/
def Obligations.MuxRddThresholdsTheSample : Prop :=
  ∀ (s : State) (ch : ChannelId),
    (∀ v, nextSample s = some v →
        exec (.muxRdd ch) s = .next { s with
          mux := { sel := ch, selCh := ch, settled := true }
          inputs := inputsAfter s 1
          out := s.out ++ [.select ch, .settle s.cfg.tSettle, .convert ch]
          result := if 512 < v.toNat then 1 else 0
          request := none })
      ∧ (nextSample s = none → exec (.muxRdd ch) s = .fault .hwUnavailable)

/-- `MUX.SCAN` (R93): eleven selects and samples in index order, sample `i` in `x[i]`, then P2. R171: if one of the
eleven answers never comes, the scan is stuck; the block makes no further step.
The model's own fields: `turn` (log 10), `out` (log 22). -/
def Obligations.MuxScanSamplesEveryInputInOrder : Prop :=
  ∀ s : State,
    ((.never : AdcAnswer) ∉ s.inputs.adc.take 11 →
      exec .muxScan s = .next { s with
        x := ⟨sampleAt s 0, sampleAt s 1, sampleAt s 2, sampleAt s 3, sampleAt s 4, sampleAt s 5, sampleAt s 6,
          sampleAt s 7, sampleAt s 8, sampleAt s 9, sampleAt s 10⟩
        mux := { sel := s.cfg.ch.aRES, selCh := s.cfg.ch.aRES, settled := true }
        inputs := inputsAfter s 11
        out := s.out ++ scanTrace s.cfg
        phase := 2
        turn := 0 })
      ∧ ((.never : AdcAnswer) ∈ s.inputs.adc.take 11 → exec .muxScan s = .fault .hwUnavailable)

/-! ## The debouncer -/

/-- `DEB.LOAD` (R100): each switch bit is its sample's digital read; nothing else but the phase changes.
The model's own fields: `turn` (log 10). -/
def Obligations.DebLoadReadsTheSwitches : Prop :=
  ∀ s : State, ∃ m : SwitchBits,
    exec .debLoad s = .next { s with switchMask := m, phase := 3, turn := 0 }
      ∧ (m.getLsbD 0 = true ↔ 512 < s.x.sF.toNat)
      ∧ (m.getLsbD 1 = true ↔ 512 < s.x.sW.toNat)
      ∧ (m.getLsbD 2 = true ↔ 512 < s.x.sR.toNat)

/-- `DEB.FRESH X` (R101): the answer is 1 exactly when the switch's bit is set in `SwitchMask` and clear in
`IgnoreMask`; it is handed to the invoker (log 14) and nothing else changes.
The model's own fields: `request` (log 11), `result` (log 14). -/
def Obligations.DebFreshAnswersFromTheMasks : Prop :=
  ∀ (s : State) (x : Switch) (n : Nat), n = (match x with | .filter => 0 | .waveform => 1 | .ringsync => 2) →
    exec (.debFresh x) s = .next { s with
      result := if s.switchMask.getLsbD n = true ∧ s.ignoreMask.getLsbD n = false then 1 else 0
      request := none }

/-- `DEB.CONSUME m` (R102): bit by bit, `IgnoreMask` gains the bits of `m` and loses none.
The model's own fields: `request` (log 11). -/
def Obligations.DebConsumeSetsItsBits : Prop :=
  ∀ (s : State) (m : SwitchBits), ∃ g : SwitchBits,
    exec (.debConsume m) s = .next { s with ignoreMask := g, request := none }
      ∧ ∀ n < 3, g.getLsbD n = (s.ignoreMask.getLsbD n || m.getLsbD n)

/-- R102: consuming ORs the switches' bits into `IgnoreMask` and only sets bits. Its callers and their masks: in the tick
in which its condition holds each consumer marks exactly its switches, a phase whose condition is false consumes nothing,
and no consumer marks a switch that was neither fresh nor marked already. -/
def Obligations.ConsumersMarkTheirSwitches : Prop :=
  ∀ s : State,
    (∀ m : SwitchBits, consume m s = { s with ignoreMask := (consume m s).ignoreMask }
        ∧ ∀ n < 3, (consume m s).ignoreMask.getLsbD n = (s.ignoreMask.getLsbD n || m.getLsbD n))
      ∧ (∀ t, exec .tuneToggle s = .next t → ∀ x, ignored t x =
        (ignored s x || ((x == .filter || x == .ringsync)
          && ((fresh s .filter && (fresh s .ringsync || ignored s .ringsync))
            || (s.cfg.skewMirror && fresh s .ringsync && ignored s .filter)))))
      ∧ (∀ t, exec .gateMute s = .next t → ∀ x, ignored t x =
        (ignored s x || ((x == .waveform || x == .ringsync) && (fresh s .waveform && fresh s .ringsync))))
      ∧ (∀ t, exec .filtNext s = .next t → ∀ x, ignored t x =
        (ignored s x || (x == .filter && (!s.tuning.mode && fresh s .filter))))
      ∧ (∀ t, exec .gateRestore s = .next t → ∀ x, ignored t x =
        (ignored s x || (x == .waveform && (s.synth.gateOff && fresh s .waveform))))
      ∧ (∀ t, exec .wfNext s = .next t → ∀ x, ignored t x =
        (ignored s x || (x == .waveform && (!s.synth.gateOff && fresh s .waveform))))
      ∧ (∀ t, exec .o3Next s = .next t → ∀ x, ignored t x =
        (ignored s x || (x == .ringsync && (!s.tuning.mode && !s.synth.gateOff && fresh s .ringsync))))
      ∧ (∀ i ∈ [Instr.tuneToggle, .gateMute, .filtNext, .gateRestore, .wfNext, .o3Next], ∀ t x,
        exec i s = .next t → ignored t x = true → ignored s x = true ∨ fresh s x = true)

/-- The two arms of P18 (R103, R156): with no switch pressed `IgnoreMask` is cleared, else the settings byte is saved;
both rows carry both arms, then P19.
The model's own fields: `out` (log 22). -/
def Obligations.PhaseEighteenPersistsOrReleases : Prop :=
  ∀ s : State, exec .nvPersist s = .next (afterPersist s) ∧ exec .debRelease s = .next (afterPersist s)

/-! ## The translator -/

/-- `FT.XLT raw, off` (R110): the entry at `raw + off`, the sum never wrapping; past the table's end `TableRange` with
the index (R172). Under the constraints on the parameters an offset of 0 to 613 always finds its entry (R45).
The model's own fields: `request` (log 11), `result` (log 14). -/
def Obligations.FtXltLooksUpTheSum : Prop :=
  ∀ (s : State) (raw off : BitVec 10),
    (∀ h : raw.toNat + off.toNat < s.cfg.tab.length,
        exec (.ftXlt raw off) s = .next { s with result := s.cfg.tab[raw.toNat + off.toNat], request := none })
      ∧ (s.cfg.tab.length ≤ raw.toNat + off.toNat →
        exec (.ftXlt raw off) s = .fault (.tableRange (raw.toNat + off.toNat)))
      ∧ (s.cfg.wf = true → off.toNat ≤ 613 → raw.toNat + off.toNat < s.cfg.tab.length)

/-- Monotonicity (R111): a larger sample, or a larger offset, gives a larger value; a table has at most 65536
entries. -/
def Obligations.TranslationIsStrictlyMonotone : Prop :=
  ∀ c : Config, c.wf = true →
    c.tab.length ≤ 65536
      ∧ (∀ (r1 r2 off : BitVec 10) (v w : BitVec 16), r1.toNat < r2.toNat →
          tableLookup c r1 off = .next v → tableLookup c r2 off = .next w → v.toNat < w.toNat)
      ∧ (∀ (raw o1 o2 : BitVec 10) (v w : BitVec 16), o1.toNat < o2.toNat →
          tableLookup c raw o1 = .next v → tableLookup c raw o2 = .next w → v.toNat < w.toNat)

/-! ## The register write driver -/

/-- `DRV.WR a, d` (R120 to R123): from idle pins, the nine pin events of R126 in order and the postcondition of R120;
a write begun while the pins show one in progress is refused (R125, log 18).
The model's own fields: `request` (log 11), `out` (log 22). -/
def Obligations.DrvWrRunsThePinTrace : Prop :=
  ∀ (s : State) (a : ChipAddr) (d : Byte),
    (s.pins.csN = true → s.pins.ale = !s.cfg.aleActive →
        exec (.drvWr a d) s = .next { afterStore a d s with request := none })
      ∧ (s.pins.csN = false → exec (.drvWr a d) s = .refused .driverBusy)
      ∧ (s.pins.ale = s.cfg.aleActive → exec (.drvWr a d) s = .refused .driverBusy)

/-- Each store reaches one place. A register write (R126) sets `chip[a]` to `d`, leaves every other chip register and the
store alone, and is one write of the record (log 22). A load of the store (R46) gives what the last save to that location
stored, every other location reads as before, and bytes and words do not touch each other (log 24).
The model's own fields: `out` (log 22). -/
def Obligations.EachStoreReachesOnePlace : Prop :=
  (∀ (s : State) (a : ChipAddr) (d : Byte),
    chipRead (afterStore a d s).mem a = some d
      ∧ (∀ b, b ≠ a → chipRead (afterStore a d s).mem b = chipRead s.mem b)
      ∧ (∀ n, nvReadByte (afterStore a d s).mem n = nvReadByte s.mem n)
      ∧ (∀ n, nvReadWord (afterStore a d s).mem n = nvReadWord s.mem n)
      ∧ writesIn (afterStore a d s).out = writesIn s.out + 1)
    ∧ (∀ (m : Memory) (a n : Nat) (b : Byte) (w : BitVec 16),
      nvReadByte (nvWriteByte m a b) n = (if n = a then b else nvReadByte m n)
        ∧ nvReadWord (nvWriteWord m a w) n = (if n = a then w else nvReadWord m n)
        ∧ nvReadWord (nvWriteByte m a b) n = nvReadWord m n
        ∧ nvReadByte (nvWriteWord m a w) n = nvReadByte m n)

/-- The fourteen named commands (R63, R67, R70 to R75): from idle pins each is one register write at its address
parameter with its row's data bits.
The model's own fields: `request` (log 11), `out` (log 22). -/
def Obligations.CommandsWriteTheirRegisters : Prop :=
  ∀ s : State, driverIdle s = true →
    (∀ v, exec (.cmdF1lo v) s = .next { afterStore s.cfg.addr.f1lo v s with request := none })
      ∧ (∀ v, exec (.cmdF1hi v) s = .next { afterStore s.cfg.addr.f1hi v s with request := none })
      ∧ (∀ v, exec (.cmdF2lo v) s = .next { afterStore s.cfg.addr.f2lo v s with request := none })
      ∧ (∀ v, exec (.cmdF2hi v) s = .next { afterStore s.cfg.addr.f2hi v s with request := none })
      ∧ (∀ v, exec (.cmdF3lo v) s = .next { afterStore s.cfg.addr.f3lo v s with request := none })
      ∧ (∀ v, exec (.cmdF3hi v) s = .next { afterStore s.cfg.addr.f3hi v s with request := none })
      ∧ (∀ p, exec (.cmdPwlo p) s = .next { afterStore s.cfg.addr.pwlo p s with request := none })
      ∧ (∀ p, exec (.cmdPwhi p) s = .next { afterStore s.cfg.addr.pwhi (p.setWidth 8) s with request := none })
      ∧ (∀ b, exec (.cmdFclo b) s = .next { afterStore s.cfg.addr.fclo (b.setWidth 8) s with request := none })
      ∧ (∀ b, exec (.cmdFchi b) s = .next { afterStore s.cfg.addr.fchi b s with request := none })
      ∧ (∀ d, exec (.cmdSus d) s = .next { afterStore s.cfg.addr.sus d s with request := none })
      ∧ (∀ r l, exec (.cmdRes r l) s = .next { afterStore s.cfg.addr.res (r ++ l) s with request := none })
      ∧ (∀ m l, exec (.cmdMode m l) s = .next { afterStore s.cfg.addr.mode (m ++ l) s with request := none })
      ∧ (∀ w r y g, exec (.cmdCtrl w r y g) s =
          .next { afterStore s.cfg.addr.ctrl
            (BitVec.ofNat 8 (16 * w.toNat + 4 * r.toNat + 2 * y.toNat + g.toNat)) s with request := none })

/-! ## The tick and the phases that derive state -/

/-- Tick entry (R178) and idling at P0 (R130): a pending, unmasked tick at P0 moves to P1 and saves nothing; otherwise
the operation leaves the state as it is.
The model's own fields: `turn` (log 10). -/
def Obligations.TickEntersOrIdles : Prop :=
  ∀ s : State,
    exec .tick s = .next
      (if s.irq.pending = true ∧ s.irq.tickMasked = false ∧ s.phase = 0#5 then
        { s with irq := { s.irq with pending := false }, phase := 1, turn := 0 }
      else s)

/-- `TUNE.TOGGLE` (R131) by its switch patterns (R62): with a variant's word the compound fires, else only the phase
moves; each variant's own row tests its own pattern.
The model's own fields: `turn` (log 10), `out` (log 22). -/
def Obligations.TuneToggleFiresOnItsVariants : Prop :=
  ∀ s : State,
    exec .tuneToggle s = .next
        (if swdWord s &&& 0x2D = 0x05 ∨ swdWord s &&& 0x29 = 0x21
            ∨ (s.cfg.skewMirror = true ∧ swdWord s &&& 0x2C = 0x0C) then afterToggle s
          else { s with phase := 4, turn := 0 })
      ∧ exec .tuneToggleA s = .next (if swdWord s &&& 0x2D = 0x05 then afterToggle s else { s with phase := 4, turn := 0 })
      ∧ exec .tuneToggleB s = .next (if swdWord s &&& 0x29 = 0x21 then afterToggle s else { s with phase := 4, turn := 0 })
      ∧ exec .tuneToggleM s = .next
          (if s.cfg.skewMirror = true ∧ swdWord s &&& 0x2C = 0x0C then afterToggle s else { s with phase := 4, turn := 0 })

/-- At P3 the step runs the row whose pattern matches, and whichever it is, the effect is that of `TUNE.TOGGLE` (R131):
the variants' rows are one operation. -/
def Obligations.PhaseThreeStepIsTuneToggle : Prop :=
  ∀ s : State, s.inputs.events = [] → s.request = none → s.phase = 3#5 → s.turn = 0#2 → step s = exec .tuneToggle s

/-- The two halves of P4. `TUNE.DEC` (R132): `off0` keeps the offset; while tuning with FILTER held the offset goes one
down, never below 0 and never above 613; nothing else changes. Nat subtraction stops at 0, as the clamp does.
`TUNE.INC` (R133): while tuning with RINGSYNC held the offset goes one up, never above 613; `offsetChanged` says whether
the offset differs from `off0`; then P5.
The model's own fields: `turn` (log 10). -/
def Obligations.TuneStepsMoveTheOffsetWithinBounds : Prop :=
  (∀ s : State, ∃ off : BitVec 10,
    exec .tuneDec s = .next { s with tuning := { s.tuning with offset := off, off0 := s.tuning.offset }, turn := 1 }
      ∧ off.toNat = (if swdWord s &&& 0x81 = 0x81 then min 613 (s.tuning.offset.toNat - 1) else s.tuning.offset.toNat))
    ∧ (∀ s : State, ∃ off : BitVec 10,
      exec .tuneInc s = .next { s with
          tuning := { s.tuning with offset := off }
          flags := { s.flags with offsetChanged := decide (off ≠ s.tuning.off0) }
          phase := 5
          turn := 0 }
        ∧ off.toNat = (if swdWord s &&& 0x84 = 0x84 then min 613 (s.tuning.offset.toNat + 1) else s.tuning.offset.toNat))

/-- `GATE.MUTE` (R134): with its word, both events are consumed and, if the gate is on, the gate goes off, the sustain
register is zeroed at once and a control byte is owed; with the gate already off nothing is written.
The model's own fields: `turn` (log 10), `out` (log 22). -/
def Obligations.GateMuteSilencesOnce : Prop :=
  ∀ s : State, driverIdle s = true →
    exec .gateMute s = .next
      (if swdWord s &&& 0x36 = 0x06 then
        if s.synth.gateOff = true then { s with ignoreMask := s.ignoreMask ||| 0b110#3, phase := 6, turn := 0 }
        else { afterStore s.cfg.addr.sus 0x00 s with
          ignoreMask := s.ignoreMask ||| 0b110#3
          synth := { s.synth with gateOff := true }
          flags := { s.flags with ctrlDirty := true }
          phase := 6
          turn := 0 }
      else { s with phase := 6, turn := 0 })

/-- `FILT.NEXT` (R135): with its word, FILTER is consumed, the filter type advances modulo 4 and a mode byte is owed.
The model's own fields: `turn` (log 10). -/
def Obligations.FiltNextAdvancesTheFilterType : Prop :=
  ∀ s : State,
    exec .filtNext s = .next
      (if swdWord s &&& 0x89 = 0x01 then
        { s with
          ignoreMask := s.ignoreMask ||| 0b001#3
          synth := { s.synth with filterType := BitVec.ofNat 2 ((s.synth.filterType.toNat + 1) % 4) }
          flags := { s.flags with filterDirty := true }
          phase := 7
          turn := 0 }
      else { s with phase := 7, turn := 0 })

/-- `WF.DEFAULT` (R136): NONE becomes PULSE with a control byte owed; any other waveform stays.
The model's own fields: `turn` (log 10). -/
def Obligations.WfDefaultReplacesNone : Prop :=
  ∀ s : State,
    exec .wfDefault s = .next
      (if s.synth.waveform = 0x00 then
        { s with
          synth := { s.synth with waveform := 0x40 }
          flags := { s.flags with ctrlDirty := true }
          phase := 8
          turn := 0 }
      else { s with phase := 8, turn := 0 })

/-- `GATE.RESTORE` (R137): with its word, WAVEFORM is consumed, the gate goes on, full sustain is written at once, and a
control byte with a resync is owed.
The model's own fields: `turn` (log 10), `out` (log 22). -/
def Obligations.GateRestoreOpensTheGate : Prop :=
  ∀ s : State, driverIdle s = true →
    exec .gateRestore s = .next
      (if swdWord s &&& 0x52 = 0x42 then
        { afterStore s.cfg.addr.sus s.cfg.susFull s with
          ignoreMask := s.ignoreMask ||| 0b010#3
          synth := { s.synth with gateOff := false }
          flags := { s.flags with ctrlDirty := true, ctrlResync := true }
          phase := 9
          turn := 0 }
      else { s with phase := 9, turn := 0 })

/-- `WF.NEXT` (R138): with its word, WAVEFORM is consumed and the code doubles, past 0x80 back to 0x10; a control byte
is owed if that changes the register (R142).
The model's own fields: `turn` (log 10). -/
def Obligations.WfNextDoublesTheWaveform : Prop :=
  ∀ (s : State) (n : Byte),
    n.toNat = (if 0x80 < 2 * s.synth.waveform.toNat then 0x10 else 2 * s.synth.waveform.toNat) →
    exec .wfNext s = .next
      (if swdWord s &&& 0x52 = 0x02 then
        { s with
          ignoreMask := s.ignoreMask ||| 0b010#3
          synth := { s.synth with waveform := n }
          flags := { s.flags with ctrlDirty := s.flags.ctrlDirty || decide (n ≠ s.synth.waveform) }
          phase := 9
          turn := 0 }
      else { s with phase := 9, turn := 0 })

/-- `WF.POT` (R139): above the floor of 50 the band of the sample sets the waveform, noise, triangle, sawtooth, pulse
ascending; a control byte is owed if that changes the register (R142).
The model's own fields: `turn` (log 10). -/
def Obligations.WfPotSetsTheBand : Prop :=
  ∀ (s : State) (b : Byte),
    b = (if s.x.aWF.toNat ≤ 50 then s.synth.waveform
      else if s.x.aWF.toNat ≤ s.cfg.wfTri.toNat ∧ s.x.aWF.toNat ≤ s.cfg.wfSaw.toNat
          ∧ s.x.aWF.toNat ≤ s.cfg.wfPulse.toNat then 0x80
      else if s.x.aWF.toNat ≤ s.cfg.wfSaw.toNat ∧ s.x.aWF.toNat ≤ s.cfg.wfPulse.toNat then 0x10
      else if s.x.aWF.toNat ≤ s.cfg.wfPulse.toNat then 0x20
      else 0x40) →
    exec .wfPot s = .next { s with
      synth := { s.synth with waveform := b }
      flags := { s.flags with ctrlDirty := s.flags.ctrlDirty || decide (b ≠ s.synth.waveform) }
      phase := 10
      turn := 0 }

/-- `O3.NEXT` (R140): with its word, RINGSYNC is consumed and the mode cycles NONE, SYNC, RING, NONE; the wrap to NONE
asks for a resync (R142).
The model's own fields: `turn` (log 10). -/
def Obligations.OscillatorThreeSwitchCyclesTheMode : Prop :=
  ∀ (s : State) (m : BitVec 2), m.toNat = (s.synth.oscillator3Mode.toNat + 1) % 3 →
    exec .o3Next s = .next
      (if swdWord s &&& 0xE4 = 0x04 then
        { s with
          ignoreMask := s.ignoreMask ||| 0b100#3
          synth := { s.synth with oscillator3Mode := m }
          flags := { s.flags with ctrlDirty := true, ctrlResync := s.flags.ctrlResync || decide (m = 0#2) }
          phase := 11
          turn := 0 }
      else { s with phase := 11, turn := 0 })

/-- `O3.CV` (R141): outside tuning mode the CV forces RING above 750, SYNC from 301 to 750, NONE up to 100, and leaves
the mode alone from 101 to 300; only a change raises a flag, a change to NONE also a resync (R142).
The model's own fields: `turn` (log 10). -/
def Obligations.RingSyncCvForcesTheBand : Prop :=
  ∀ (s : State) (m : BitVec 2),
    m = (if s.tuning.mode = true then s.synth.oscillator3Mode
      else if 751 ≤ s.x.aRS.toNat then 2#2
      else if 301 ≤ s.x.aRS.toNat then 1#2
      else if 101 ≤ s.x.aRS.toNat then s.synth.oscillator3Mode
      else 0#2) →
    exec .o3Cv s = .next { s with
      synth := { s.synth with oscillator3Mode := m }
      flags := { s.flags with
        ctrlDirty := s.flags.ctrlDirty || decide (m ≠ s.synth.oscillator3Mode)
        ctrlResync := s.flags.ctrlResync || (decide (m ≠ s.synth.oscillator3Mode) && decide (m = 0#2)) }
      phase := 12
      turn := 0 }

/-- The two helpers of R142: a new waveform or oscillator-3 mode is stored with a control byte owed, and NONE also asks
for a resync; a call with the value the register already holds does nothing at all; `TUNE.TOGGLE`, which forces NONE
without them, asks for no resync. -/
def Obligations.TransitionsRaiseTheirFlags : Prop :=
  ∀ s : State,
    (∀ v : Byte, setWaveform v s =
      (if v = s.synth.waveform then s
      else { s with synth := { s.synth with waveform := v }, flags := { s.flags with ctrlDirty := true } }))
      ∧ (∀ m : BitVec 2, setO3 m s =
        (if m = s.synth.oscillator3Mode then s
        else { s with
          synth := { s.synth with oscillator3Mode := m }
          flags := { s.flags with ctrlDirty := true, ctrlResync := if m = o3None then true else s.flags.ctrlResync } }))
      ∧ (∀ t, exec .tuneToggle s = .next t → t.flags.ctrlResync = s.flags.ctrlResync)

/-- All three switches fresh (R143): `TUNE.TOGGLE` fires and consumes RINGSYNC, so that `GATE.MUTE` after it does
nothing but advance, while WAVEFORM is still fresh.
The model's own fields: `turn` (log 10). -/
def Obligations.AllThreeFreshTogglesAndDoesNotMute : Prop :=
  ∀ s t : State, swdWord s &&& 0x3F = 0x07 → exec .tuneToggle s = .next t →
    t.tuning.mode = !s.tuning.mode
      ∧ exec .gateMute t = .next { t with phase := 6, turn := 0 }
      ∧ fresh t .waveform = true

/-! ## The phases that write -/

/-- `CTRL.WR` (R150): a control byte owed is written, `wfe | ring << 2 | sync << 1 | gate`, after the re-arm byte `wfe`
if a resync is flagged, and both flags are cleared; else nothing is written.
The model's own fields: `turn` (log 10), `out` (log 22). -/
def Obligations.CtrlWrWritesTheControlByte : Prop :=
  ∀ (s : State) (wfe byte : Byte), driverIdle s = true →
    wfe = (if s.synth.oscillator3Mode = 2#2 then 0x10 else s.synth.waveform) →
    byte = wfe ||| (if s.synth.oscillator3Mode = 2#2 then 0x04 else 0x00)
      ||| (if s.synth.oscillator3Mode = 1#2 then 0x02 else 0x00) ||| (if s.synth.gateOff = true then 0x00 else 0x01) →
    exec .ctrlWr s = .next
      (if s.flags.ctrlDirty = true then
        { (if s.flags.ctrlResync = true then
              afterStore s.cfg.addr.ctrl byte (afterStore s.cfg.addr.ctrl wfe s)
            else afterStore s.cfg.addr.ctrl byte s) with
          flags := { s.flags with ctrlDirty := false, ctrlResync := false }
          phase := 13
          turn := 0 }
      else { s with phase := 13, turn := 0 })

/-- The control byte (R67): the effective waveform with ring, sync and gate in bits 2, 1, 0, bit 3 always 0, ring and
sync never both 1; the re-arm byte is the same byte with bits 2, 1, 0 cleared; in a safe state at P12 exactly one
waveform bit is set. The waveform register holds one of its codes and the mode is not 3, as R12 and R18 have it. -/
def Obligations.ControlByteIsComposedOfItsFields : Prop :=
  ∀ s : State, waveformCode s.synth.waveform = true → s.synth.oscillator3Mode ≠ 3#2 →
    (controlByte s.synth).getLsbD 0 = !s.synth.gateOff
      ∧ (controlByte s.synth).getLsbD 1 = decide (s.synth.oscillator3Mode = 1#2)
      ∧ (controlByte s.synth).getLsbD 2 = decide (s.synth.oscillator3Mode = 2#2)
      ∧ (controlByte s.synth).getLsbD 3 = false
      ∧ ¬((controlByte s.synth).getLsbD 2 = true ∧ (controlByte s.synth).getLsbD 1 = true)
      ∧ (controlByte s.synth).extractLsb' 4 4 =
        (if s.synth.oscillator3Mode = 2#2 then 1#4 else s.synth.waveform.extractLsb' 4 4)
      ∧ effectiveWaveform s.synth = controlByte s.synth &&& 0xF8
      ∧ (SafeState s → s.phase = 12#5 →
        (controlByte s.synth).extractLsb' 4 4 = 1#4 ∨ (controlByte s.synth).extractLsb' 4 4 = 2#4
          ∨ (controlByte s.synth).extractLsb' 4 4 = 4#4 ∨ (controlByte s.synth).extractLsb' 4 4 = 8#4)

/-- `FMODE.WR` (R151): a mode byte owed is written, `FMODE[filterType] | MODE_LOW`, and the flag is cleared.
The model's own fields: `turn` (log 10), `out` (log 22). -/
def Obligations.FmodeWrWritesTheModeByte : Prop :=
  ∀ s : State, driverIdle s = true →
    exec .fmodeWr s = .next
      (if s.flags.filterDirty = true then
        { afterStore s.cfg.addr.mode (s.cfg.fmode[s.synth.filterType.toNat] ||| (0#4 ++ s.cfg.modeLow)) s with
          flags := { s.flags with filterDirty := false }
          phase := 14
          turn := 0 }
      else { s with phase := 14, turn := 0 })

/-- `FREQ.UPD k` (R152) for `k` = 1, 2, 3, with `x[4+k]`: if the caches are not valid, the sample moved or the offset
changed, the table value at `x[4+k] + TuningOffset` is written low byte first and the raw sample cached; else nothing;
past the table `TableRange`. After `k` = 1 and 2 the next channel's turn, after `k` = 3 P15.
The model's own fields: `turn` (log 10), `out` (log 22). -/
def Obligations.FreqUpdFollowsItsInput : Prop :=
  ∀ s : State, driverIdle s = true →
    ((s.flags.cachesValid = true → s.x.aF1 = s.synth.freq1 → s.flags.offsetChanged = false →
        exec (.freqUpd .one) s = .next { s with turn := 1 })
      ∧ (s.flags.cachesValid = false ∨ s.x.aF1 ≠ s.synth.freq1 ∨ s.flags.offsetChanged = true →
        (∀ v, s.cfg.tab[s.x.aF1.toNat + s.tuning.offset.toNat]? = some v →
            exec (.freqUpd .one) s = .next
              { afterStore s.cfg.addr.f1hi (v.extractLsb' 8 8) (afterStore s.cfg.addr.f1lo (v.extractLsb' 0 8) s) with
                synth := { s.synth with freq1 := s.x.aF1 }
                turn := 1 })
          ∧ (s.cfg.tab.length ≤ s.x.aF1.toNat + s.tuning.offset.toNat →
            exec (.freqUpd .one) s = .fault (.tableRange (s.x.aF1.toNat + s.tuning.offset.toNat)))))
    ∧ ((s.flags.cachesValid = true → s.x.aF2 = s.synth.freq2 → s.flags.offsetChanged = false →
        exec (.freqUpd .two) s = .next { s with turn := 2 })
      ∧ (s.flags.cachesValid = false ∨ s.x.aF2 ≠ s.synth.freq2 ∨ s.flags.offsetChanged = true →
        (∀ v, s.cfg.tab[s.x.aF2.toNat + s.tuning.offset.toNat]? = some v →
            exec (.freqUpd .two) s = .next
              { afterStore s.cfg.addr.f2hi (v.extractLsb' 8 8) (afterStore s.cfg.addr.f2lo (v.extractLsb' 0 8) s) with
                synth := { s.synth with freq2 := s.x.aF2 }
                turn := 2 })
          ∧ (s.cfg.tab.length ≤ s.x.aF2.toNat + s.tuning.offset.toNat →
            exec (.freqUpd .two) s = .fault (.tableRange (s.x.aF2.toNat + s.tuning.offset.toNat)))))
    ∧ ((s.flags.cachesValid = true → s.x.aF3 = s.synth.freq3 → s.flags.offsetChanged = false →
        exec (.freqUpd .three) s = .next { s with phase := 15, turn := 0 })
      ∧ (s.flags.cachesValid = false ∨ s.x.aF3 ≠ s.synth.freq3 ∨ s.flags.offsetChanged = true →
        (∀ v, s.cfg.tab[s.x.aF3.toNat + s.tuning.offset.toNat]? = some v →
            exec (.freqUpd .three) s = .next
              { afterStore s.cfg.addr.f3hi (v.extractLsb' 8 8) (afterStore s.cfg.addr.f3lo (v.extractLsb' 0 8) s) with
                synth := { s.synth with freq3 := s.x.aF3 }
                phase := 15
                turn := 0 })
          ∧ (s.cfg.tab.length ≤ s.x.aF3.toNat + s.tuning.offset.toNat →
            exec (.freqUpd .three) s = .fault (.tableRange (s.x.aF3.toNat + s.tuning.offset.toNat)))))

/-- `PW.UPD` (R153): the sample times 4, clamped to 160 to 4095, is written low byte first if it is new or the caches
are not valid. `FC.UPD` (R154): twice the sample is written, low 3 bits first and then the high 8, if it is new or the
caches are not valid.
The model's own fields: `turn` (log 10), `out` (log 22). -/
def Obligations.PulseWidthAndCutoffFollowTheirInputs : Prop :=
  (∀ (s : State) (p : BitVec 12), driverIdle s = true → p.toNat = max 160 (min 4095 (4 * s.x.aPW.toNat)) →
    exec .pwUpd s = .next
      (if s.flags.cachesValid = true ∧ p = s.synth.pulseWidth then { s with phase := 16, turn := 0 }
      else
        { afterStore s.cfg.addr.pwhi (0#4 ++ p.extractLsb' 8 4) (afterStore s.cfg.addr.pwlo (p.extractLsb' 0 8) s) with
          synth := { s.synth with pulseWidth := p }
          phase := 16
          turn := 0 }))
    ∧ (∀ (s : State) (c : BitVec 11), driverIdle s = true → c.toNat = 2 * s.x.aFC.toNat →
      exec .fcUpd s = .next
        (if s.flags.cachesValid = true ∧ c = s.synth.filterCutoff then { s with phase := 17, turn := 0 }
        else
          { afterStore s.cfg.addr.fchi (c.extractLsb' 3 8) (afterStore s.cfg.addr.fclo (0#5 ++ c.extractLsb' 0 3) s) with
            synth := { s.synth with filterCutoff := c }
            phase := 17
            turn := 0 }))

/-- `RES.UPD` (R155): the sample divided by 64 is written over `RES_LOW` if it is new or the caches are not valid; the
caches are valid afterwards.
The model's own fields: `turn` (log 10), `out` (log 22). -/
def Obligations.ResUpdShiftsAndValidatesCaches : Prop :=
  ∀ (s : State) (r : BitVec 4), driverIdle s = true → r.toNat = s.x.aRES.toNat / 64 →
    exec .resUpd s = .next
      (if s.flags.cachesValid = true ∧ r = s.synth.resonance then { s with phase := 18, turn := 0 }
      else
        { afterStore s.cfg.addr.res (r ++ s.cfg.resLow) s with
          synth := { s.synth with resonance := r }
          flags := { s.flags with cachesValid := true }
          phase := 18
          turn := 0 })

/-- `LED.OUT` (R157): the LED byte and sync line by mode, gate, waveform, oscillator 3 and filter type, emitted MSB
first and then the line; the tick returns to P0.
The model's own fields: `turn` (log 10), `out` (log 22). -/
def Obligations.LedOutShowsTheState : Prop :=
  ∀ (s : State) (b : Byte) (y : Bool),
    b = (if s.tuning.mode = true then 0xFF
      else (if s.synth.gateOff = true then 0x00
          else if s.synth.oscillator3Mode = 2#2 then 0x10 else s.synth.waveform)
        ||| (if s.synth.oscillator3Mode = 2#2 then 0x08 else 0x00)
        ||| (if s.synth.filterType = 0#2 then 0x01 else if s.synth.filterType = 1#2 then 0x02
          else if s.synth.filterType = 2#2 then 0x04 else 0x05)) →
    y = (s.tuning.mode || decide (s.synth.oscillator3Mode = 1#2)) →
    exec .ledOut s = .next { s with
      led := { byte := b, sync := y }
      out := s.out ++ [.shiftOut .msbFirst b, .syncLine y]
      phase := 0
      turn := 0 }

/-! ## Reset and the store -/

/-- `RESET.LOAD` (R190): the sentinel 0xFF gives NONE, LOW_PASS, NONE and 306 without the word being looked at; any
other byte is taken field by field and the word, read as two's complement, is clamped to 0 to 613; every register of the
rule's list takes its value, and the tick is unmasked at P0.
The model's own fields: `turn` (log 10). -/
def Obligations.ResetLoadRestoresTheStore : Prop :=
  ∀ (s : State) (b w : Byte) (o : BitVec 2) (off : BitVec 10) (word : BitVec 16),
    b = nvReadByte s.mem s.cfg.nvSettings → word = nvReadWord s.mem s.cfg.nvTuning →
    w = (if b ≠ 0xFF ∧ (b.toNat / 16 = 1 ∨ b.toNat / 16 = 2 ∨ b.toNat / 16 = 4 ∨ b.toNat / 16 = 8) then b &&& 0xF0
      else 0x00) →
    o = (if b = 0xFF ∨ b.toNat % 4 = 3 then 0#2 else BitVec.ofNat 2 b.toNat) →
    off.toNat = (if b = 0xFF then 306 else if 32768 ≤ word.toNat then 0 else min 613 word.toNat) →
    exec .resetLoad s = .next { s with
      synth := {
        waveform := w, pulseWidth := 160, filterCutoff := 0, resonance := 0
        filterType := if b = 0xFF then 0#2 else BitVec.ofNat 2 (b.toNat / 4)
        oscillator3Mode := o, gateOff := false, freq1 := 0, freq2 := 0, freq3 := 0 }
      tuning := { s.tuning with offset := off, mode := false }
      switchMask := 0
      ignoreMask := 0
      flags := {
        ctrlDirty := true, ctrlResync := false, filterDirty := true, cachesValid := false, offsetChanged := false }
      led := { byte := 0, sync := false }
      mux := { s.mux with settled := false }
      pins := { s.pins with csN := true, ale := !s.cfg.aleActive }
      irq := { s.irq with pending := false, tickMasked := false }
      phase := 0
      turn := 0 }

/-- The values R33 states for reset, in the state the machine starts from. -/
def Obligations.ResetHoldsTheStatedValues : Prop :=
  ∀ (c : Config) (s : State), s = State.resetWith c →
    s.phase = 31#5 ∧ s.synth.pulseWidth = 160#12 ∧ s.synth.filterCutoff = 0#11
      ∧ s.synth.resonance = 0#4 ∧ s.synth.gateOff = false ∧ s.synth.freq1 = 0#10 ∧ s.synth.freq2 = 0#10
      ∧ s.synth.freq3 = 0#10 ∧ s.tuning.mode = false ∧ s.switchMask = 0#3 ∧ s.ignoreMask = 0#3
      ∧ s.flags.ctrlDirty = true ∧ s.flags.ctrlResync = false ∧ s.flags.filterDirty = true
      ∧ s.flags.cachesValid = false ∧ s.flags.offsetChanged = false
      ∧ s.mux.settled = false ∧ s.pins.ale = (!c.aleActive) ∧ s.pins.csN = true ∧ s.led.byte = 0x00
      ∧ s.led.sync = false ∧ s.irq.pending = false ∧ s.irq.tickMasked = true

/-- A reset event (R191, R177) at any phase, with an operation outstanding or not: one step leaves a state that depends
only on the configuration, the store, the environment's inputs and the record of outputs; it is idle at P0 with the tick
unmasked, and the store is as it was (R187). That this covers `BUS`, `LATCH`, the select lines, `selCh`, `saved` and `x`,
which R33 leaves unspecified, is the model's choice: log 4 (DESIGN CHOICE) makes them 0, and log 6 (DESIGN CHOICE) clears
the model's own `turn`, `request`, `result` and the hidden `off0`. That the chip's registers read as unspecified again is
log 19 (DEDUCED). -/
def Obligations.ResetEventForgetsAllButTheStore : Prop :=
  (∀ (s u : State) (es : List Event), s.inputs.events = .reset :: es → u.inputs = s.inputs → u.cfg = s.cfg →
      u.mem.nvBytes = s.mem.nvBytes → u.mem.nvWords = s.mem.nvWords → u.out = s.out → step u = step s)
    ∧ (∀ (s : State) (es : List Event), s.inputs.events = .reset :: es → ∃ t, step s = .next t
        ∧ t.phase = 0#5 ∧ t.irq.tickMasked = false ∧ t.irq.pending = false ∧ t.request = none ∧ t.out = s.out
        ∧ t.inputs = { s.inputs with events := es } ∧ t.mem = { s.mem with chip := [] })

/-- Save, then load (R68's round trip, R46): from a state that holds a waveform and a legal mode, the settings byte P18
saves gives the same waveform, filter type and oscillator-3 mode back at the next load, and it is never the sentinel.
Leave tuning mode, then load (R131, R190): beside a byte that is not the sentinel the offset saved is the one loaded. The
layout of the byte and the form of the word are the spec's own decisions (D29, D37, log 28). -/
def Obligations.SettingsAndOffsetSurviveSaveAndLoad : Prop :=
  ∀ s t u : State,
    (waveformCode s.synth.waveform = true → s.synth.waveform ≠ 0x00 → s.synth.oscillator3Mode ≠ 3#2 →
        s.switchMask ≠ 0#3 → exec .nvPersist s = .next t → exec .resetLoad t = .next u →
        nvReadByte t.mem s.cfg.nvSettings ≠ 0xFF ∧ u.synth.waveform = s.synth.waveform
          ∧ u.synth.filterType = s.synth.filterType ∧ u.synth.oscillator3Mode = s.synth.oscillator3Mode)
      ∧ (s.tuning.mode = true → s.tuning.offset.toNat ≤ 613 → swdWord s &&& 0x2D = 0x05 →
        nvReadByte s.mem s.cfg.nvSettings ≠ 0xFF → exec .tuneToggle s = .next t → exec .resetLoad t = .next u →
        u.tuning.offset = s.tuning.offset)

/-- The interrupt mask around a save (R204): `IntDisable` and `IntRestore` as the rule writes them, a save wrapped in them
leaves the mask as it was, so do the two phases that save, whatever the mask is; the mask is 1 at reset until
`RESET.LOAD` ends. That the mask is restored and not enabled is the spec's own decision (D44, C5, log 28), against the
document's "then re-enabled". -/
def Obligations.MaskIsRestoredAroundSaves : Prop :=
  ∀ s : State,
    intDisable s = { s with irq := { s.irq with saved := s.irq.tickMasked, tickMasked := true } }
      ∧ intRestore s = { s with irq := { s.irq with tickMasked := s.irq.saved } }
      ∧ (∀ a b, (saveByteMasked a b s).irq.tickMasked = s.irq.tickMasked)
      ∧ (∀ a w, (saveWordMasked a w s).irq.tickMasked = s.irq.tickMasked)
      ∧ (∃ t, exec .nvPersist s = .next t ∧ t.irq.tickMasked = s.irq.tickMasked)
      ∧ (∃ t, exec .tuneToggle s = .next t ∧ t.irq.tickMasked = s.irq.tickMasked)
      ∧ (∀ c, (State.resetWith c).irq.tickMasked = true)
      ∧ (∃ t, exec .resetLoad s = .next t ∧ t.irq.tickMasked = false)

/-- The settings byte (R68): its three fields, what each field of any byte is read as, that a valid state never packs to
the sentinel, and that packing and reading back gives the same three fields. The layout is the spec's own decision (D29,
log 28): the document gives none. The last clause is R190's: a load of the sentinel gives NONE, LOW_PASS and NONE. -/
def Obligations.SettingsByteRoundTrips : Prop :=
  (∀ y : Synth, (pack y).extractLsb' 4 4 = y.waveform.extractLsb' 4 4 ∧ (pack y).extractLsb' 2 2 = y.filterType
      ∧ (pack y).extractLsb' 0 2 = y.oscillator3Mode)
    ∧ (∀ b : Byte, unpackFilter b = b.extractLsb' 2 2
      ∧ unpackO3 b = (if b.extractLsb' 0 2 = 3#2 then 0#2 else b.extractLsb' 0 2)
      ∧ unpackWaveform b = (if b.extractLsb' 4 4 = 1#4 ∨ b.extractLsb' 4 4 = 2#4 ∨ b.extractLsb' 4 4 = 4#4
          ∨ b.extractLsb' 4 4 = 8#4 then b.extractLsb' 4 4 ++ 0b0000#4 else 0x00))
    ∧ (∀ y : Synth, waveformCode y.waveform = true → y.waveform ≠ 0x00 → y.oscillator3Mode ≠ 3#2 →
      pack y ≠ 0xFF ∧ unpackWaveform (pack y) = y.waveform ∧ unpackFilter (pack y) = y.filterType
        ∧ unpackO3 (pack y) = y.oscillator3Mode)
    ∧ (∀ y : Synth, loadSettings 0xFF y = { y with waveform := 0x00, filterType := 0#2, oscillator3Mode := 0#2 })

/-! ## Rules over the whole machine -/

/-- A tick event at any phase of a tick (not P0; and not P31, where `RESET.LOAD` clears `pending`, R190, log 20) does not
disturb the operation in progress (R179): the step is the one that would have run on a quiet event, and `pending` is set. -/
def Obligations.TickEventWaitsWhileATickRuns : Prop :=
  ∀ (s t : State) (es : List Event), s.inputs.events = .tick :: es → s.phase ≠ 0#5 → s.phase ≠ 31#5 →
    step { s with inputs := { s.inputs with events := .quiet :: es } } = .next t →
    step s = .next { t with irq := { t.irq with pending := true } }

/-- Nothing outside the tick touches the block, between or during ticks (R203, R175). Whatever tries to invoke an operation
from outside, at any phase, is refused; an operation invoked by name is part of a running tick, is refused outside one,
and no step leaves one standing; between ticks a step without a reset event changes nothing but what the tick's own entry
and the arrival of its event change; a tick begins at P0 only. The forms of an invocation (`Event.invoke`, `request`) are
the model's own (log 8, log 11). -/
def Obligations.NothingOutsideTheTickTouchesTheBlock : Prop :=
  (∀ (s : State) (c : Call) (es : List Event), s.inputs.events = .invoke c :: es → step s = .refused .reentry)
    ∧ (∀ (s : State) (c : Call), s.inputs.events = [] → s.request = some c → s.phase = 0#5 ∨ s.phase = 31#5 →
      step s = .refused .outsideTick)
    ∧ (∀ s t : State, step s = .next t → t.request = none)
    ∧ (∀ s t : State, s.inputs.events.head? ≠ some .reset → s.phase = 0#5 → step s = .next t →
      t = { s with
        inputs := { s.inputs with events := s.inputs.events.tail }
        phase := t.phase
        irq := { s.irq with pending := t.irq.pending } })
    ∧ (∀ s t : State, s.inputs.events.head? ≠ some .reset → s.request = none → step s = .next t → t.phase = 1#5 →
      s.phase = 0#5)

/-- Where the operations store (R43, R46): a chip register outside an operation's targets reads as before, and so does
every store location but the settings byte of P18 and the offset word of P3, computed from the configuration. -/
def Obligations.OperationsStoreOnlyWhereTheyMay : Prop :=
  ∀ (i : Instr) (s t : State), exec i s = .next t →
    (∀ a, a ∉ chipTargets s.cfg i → chipRead t.mem a = chipRead s.mem a)
      ∧ (∀ n, (savesSettings i = true → n ≠ s.cfg.nvSettings) → nvReadByte t.mem n = nvReadByte s.mem n)
      ∧ (∀ n, (savesOffset i = true → n ≠ s.cfg.nvTuning) → nvReadWord t.mem n = nvReadWord s.mem n)

/-- "Addresses not in this table are never written by the block" (R43): while nothing is invoked from outside and no
reset event arrives, a step leaves every chip register outside the fourteen addresses as it was. -/
def Obligations.BlockWritesOnlyTheFourteenRegisters : Prop :=
  ∀ (s t : State) (a : ChipAddr), noCalls s = true → s.inputs.events.head? ≠ some .reset →
    (∀ r : ChipReg, a ≠ chipAddrOf s.cfg r) → step s = .next t → chipRead t.mem a = chipRead s.mem a

/-- Each register of the block has its writers (R11 to R31, R36): in a step with no reset event and outside P31, a register
changes only at the phases whose operations write it. `IgnoreMask`, the multiplexer and the pins may also be written by
an operation the running tick invokes by name (log 11), so their clauses are about the sequencer's steps; `pending`
changes at P0 or with a tick event; `tickMasked` never changes; `off0` is the hidden register of P4 (log 10). -/
def Obligations.RegistersChangeOnlyAtTheirPhases : Prop :=
  ∀ s t : State, s.inputs.events.head? ≠ some .reset → s.phase ≠ 31#5 → step s = .next t →
    (s.phase ≠ 1#5 → t.x = s.x)
      ∧ (s.phase ≠ 2#5 → t.switchMask = s.switchMask)
      ∧ (s.phase ≠ 3#5 → t.tuning.mode = s.tuning.mode)
      ∧ (s.phase ≠ 4#5 → t.tuning.offset = s.tuning.offset)
      ∧ (s.phase ≠ 5#5 → s.phase ≠ 8#5 → t.synth.gateOff = s.synth.gateOff)
      ∧ (s.phase ≠ 6#5 → t.synth.filterType = s.synth.filterType)
      ∧ (s.phase ≠ 7#5 → s.phase ≠ 8#5 → s.phase ≠ 9#5 → t.synth.waveform = s.synth.waveform)
      ∧ (s.phase ≠ 3#5 → s.phase ≠ 10#5 → s.phase ≠ 11#5 → t.synth.oscillator3Mode = s.synth.oscillator3Mode)
      ∧ (s.phase ≠ 14#5 → t.synth.freq1 = s.synth.freq1 ∧ t.synth.freq2 = s.synth.freq2
          ∧ t.synth.freq3 = s.synth.freq3)
      ∧ (s.phase ≠ 15#5 → t.synth.pulseWidth = s.synth.pulseWidth)
      ∧ (s.phase ≠ 16#5 → t.synth.filterCutoff = s.synth.filterCutoff)
      ∧ (s.phase ≠ 17#5 → t.synth.resonance = s.synth.resonance)
      ∧ (s.phase ≠ 19#5 → t.led = s.led)
      ∧ (s.request = none → s.phase ∉ [3#5, 5#5, 6#5, 8#5, 10#5, 18#5] → t.ignoreMask = s.ignoreMask)
      ∧ (s.phase ∉ [3#5, 5#5, 7#5, 8#5, 9#5, 10#5, 11#5, 12#5] → t.flags.ctrlDirty = s.flags.ctrlDirty)
      ∧ (s.phase ∉ [8#5, 10#5, 11#5, 12#5] → t.flags.ctrlResync = s.flags.ctrlResync)
      ∧ (s.phase ≠ 6#5 → s.phase ≠ 13#5 → t.flags.filterDirty = s.flags.filterDirty)
      ∧ (s.phase ≠ 17#5 → t.flags.cachesValid = s.flags.cachesValid)
      ∧ (s.phase ≠ 4#5 → t.flags.offsetChanged = s.flags.offsetChanged ∧ t.tuning.off0 = s.tuning.off0)
      ∧ (s.request = none → s.phase ≠ 1#5 → t.mux = s.mux)
      ∧ (s.request = none → s.phase ∉ [5#5, 8#5, 12#5, 13#5, 14#5, 15#5, 16#5, 17#5] → t.pins = s.pins)
      ∧ (s.phase ≠ 0#5 → s.inputs.events.head? ≠ some .tick → t.irq.pending = s.irq.pending)
      ∧ t.irq.tickMasked = s.irq.tickMasked
      ∧ (s.phase ≠ 3#5 → s.phase ≠ 18#5 → t.irq.saved = s.irq.saved)
      ∧ t.cfg = s.cfg

/-- "a bit is cleared only when **all** switches read unpressed in a tick" (R24, R102, R103): in a step with no reset
event and outside P31, every bit of `IgnoreMask` stays set, unless it is P18 with no switch pressed. -/
def Obligations.IgnoreMaskClearsOnlyWhenAllReleased : Prop :=
  ∀ s t : State, s.inputs.events.head? ≠ some .reset → s.phase ≠ 31#5 → step s = .next t →
    t.ignoreMask &&& s.ignoreMask = s.ignoreMask ∨ (s.phase = 18#5 ∧ s.switchMask = 0#3 ∧ t.ignoreMask = 0#3)

/-- One shot per press (R105): over any run, as long as no P18 sees all switches released and no reset falls in it, a
switch whose event was consumed is not fresh again. -/
def Obligations.ConsumedSwitchIsNotFreshUntilAllReleased : Prop :=
  ∀ (n : Nat) (s t : State) (x : Switch), ignored s x = true →
    (∀ m < n, ∀ u : State, Sys2Proof.core.run m s = .next u →
      u.inputs.events.head? ≠ some .reset ∧ u.phase ≠ 31#5 ∧ ¬(u.phase = 18#5 ∧ u.switchMask = 0#3)) →
    Sys2Proof.core.run n s = .next t → fresh t x = false

/-- Nothing that only leaves the block comes back (R31, R35, R30): with the LED output, the chip's registers, the bus,
the latch, the handed-over result and the record of outputs forgotten, the machine steps the same. -/
def Obligations.OutputsAreNeverReadBack : Prop :=
  ∀ s : State, onNext forgetOutputs (step (forgetOutputs s)) = onNext forgetOutputs (step s)

/-! ## Invariants and headline results -/

/-- The state the machine starts from is safe, and its masks are released. -/
def Obligations.ResetIsSafe : Prop := SafeState State.reset ∧ MasksReleased State.reset

/-- Every step from a safe state leads to a safe state (R28 and R13, R14, R18, R21, R25, R30), whatever the environment
does (samples, ticks, resets), and whichever operation a running tick invokes by name (log 11). -/
def Obligations.StepKeepsSafeStates : Prop :=
  ∀ s t : State, SafeState s → step s = .next t → SafeState t

/-- "`IgnoreMask` is 0 if `SwitchMask` is 0" at the end of P18 and between ticks (R28) is kept by every step while no
operation stands invoked by name (log 11). -/
def Obligations.StepKeepsMasksReleased : Prop :=
  ∀ s t : State, SafeState s → MasksReleased s → step s = .next t → MasksReleased t

/-- Safe states never stop (R171, R172): while the converter answers and nothing is invoked from outside, the machine
always has a next step; in particular `TableRange` and a busy driver are unreachable. -/
def Obligations.SafeStatesAlwaysStep : Prop :=
  ∀ s : State, SafeState s → noCalls s = true → converterAnswers s = true → ∃ t, step s = .next t

/-- A tick completes (R130, R28): from a safe state at P0 with a tick pending, the converter answering, and nothing but
quiet or further tick events to come, the 23 operations of one tick lead back to P0, with every flag cleared, the caches
valid, the waveform not NONE, and each input sampled once. -/
def Obligations.TickCompletesInTwentyThreeSteps : Prop :=
  ∀ s : State, SafeState s → noCalls s = true → noResets s = true → converterAnswers s = true →
    s.phase = 0#5 → s.irq.pending = true →
    ∃ t : State, Sys2Proof.core.run 23 s = .next t ∧ t.phase = 0#5 ∧ t.flags.ctrlDirty = false
      ∧ t.flags.ctrlResync = false ∧ t.flags.filterDirty = false ∧ t.flags.cachesValid = true
      ∧ t.synth.waveform ≠ 0x00 ∧ t.inputs.taken = s.inputs.taken + 11
      ∧ t.x = ⟨sampleAt s 0, sampleAt s 1, sampleAt s 2, sampleAt s 3, sampleAt s 4, sampleAt s 5, sampleAt s 6,
        sampleAt s 7, sampleAt s 8, sampleAt s 9, sampleAt s 10⟩

/-- "A tick issues at most 15 register writes" (R158), and the first after reset, whose caches hold nothing and whose
control and mode bytes are owed, at least 13. -/
def Obligations.TickIssuesAtMostFifteenWrites : Prop :=
  ∀ s : State, SafeState s → noCalls s = true → noResets s = true → converterAnswers s = true →
    s.phase = 0#5 → s.irq.pending = true →
    ∃ t : State, Sys2Proof.core.run 23 s = .next t
      ∧ writesIn t.out ≤ writesIn s.out + 15
      ∧ (s.flags.cachesValid = false → s.flags.ctrlDirty = true → s.flags.filterDirty = true →
        writesIn s.out + 13 ≤ writesIn t.out)
end

