-- ==== Sys2Proof/Laws/Config.lean ====
section
/-! SUPPORT. Laws/Config.lean: what the constraints of 00_scope.md R7 say in numbers, and that the reference configuration
keeps them. -/

namespace Sys2Proof

open Sys2Proof.Machine

@[simp] theorem tabLenMin_eq : tabLenMin = 1637 := rfl

/-- What a configuration within the constraints guarantees of the table and the pot edges. -/
theorem wf_numbers (c : Config) (h : c.wf = true) :
    1637 ≤ c.tab.length ∧ strictlyRising c.tab = true ∧ 50 < c.wfTri.toNat ∧ c.wfTri.toNat < c.wfSaw.toNat
      ∧ c.wfSaw.toNat < c.wfPulse.toNat ∧ c.wfPulse.toNat < 1023 := by
  simp only [Config.wf, Bool.and_eq_true, decide_eq_true_eq, tabLenMin_eq, wfFloor, sampleMax] at h
  tauto

/-- The addresses, the step-2 bytes and the store locations of a configuration within the constraints are distinct. -/
theorem wf_distinct (c : Config) (h : c.wf = true) :
    c.ch.toList.Nodup ∧ c.addr.toList.Nodup ∧ c.b2.toList.Nodup ∧ c.nvSettings ≠ c.nvTuning := by
  simp only [Config.wf, Bool.and_eq_true, decide_eq_true_eq] at h
  tauto

theorem tabTest_length (total n : Nat) : (tabTest total n).length = n := by
  induction n with
  | zero => rfl
  | succ n ih => simp [tabTest, ih]

/-- The test table rises by 40 with each index, so it is strictly increasing while it fits 16 bits. -/
theorem tabTest_rising (total n : Nat) (h : 40 * total + 16 < 65536) (hn : n ≤ total) :
    strictlyRising (tabTest total n) = true := by
  induction n with
  | zero => rfl
  | succ n ih =>
    cases n with
    | zero => rfl
    | succ n =>
      have := ih (by omega)
      simp only [tabTest] at this ⊢
      simp only [strictlyRising, this, BitVec.toNat_ofNat, Bool.and_true, decide_eq_true_eq]
      rw [Nat.mod_eq_of_lt (by omega), Nat.mod_eq_of_lt (by omega)]
      omega

theorem ref_tab_length : Config.ref.tab.length = 1637 := tabTest_length 1637 1637

theorem ref_wf : Config.ref.wf = true := by
  have hr : strictlyRising Config.ref.tab = true := tabTest_rising 1637 1637 (by omega) (by omega)
  simp only [Config.wf, ref_tab_length, hr]
  decide

end Sys2Proof
end

