-- ==== Sys2Proof/Laws/Memory.lean ====
section
/-! SUPPORT. Laws/Memory.lean: read after write, every other place unchanged, and every memory operation keeps the
canonical form. -/

namespace Sys2Proof.Machine

theorem cellsRead_insert {α : Type} (l : List (Nat × α)) (a b : Nat) (v : α) :
    cellsRead (cellsInsert l a v) b = if b = a then some v else cellsRead l b := by
  induction l with
  | nil => simp [cellsInsert, cellsRead, eq_comm]
  | cons c rest ih =>
    obtain ⟨k, w⟩ := c
    by_cases hlt : a < k
    · simp [cellsInsert, hlt, cellsRead, eq_comm]
    · by_cases heq : a = k
      · subst heq
        by_cases hb : b = a
        · subst hb; simp [cellsInsert, cellsRead]
        · simp [cellsInsert, cellsRead, hb, Ne.symm hb]
      · by_cases hb : k = b
        · subst hb; simp [cellsInsert, hlt, heq, cellsRead, Ne.symm heq]
        · simp [cellsInsert, hlt, heq, cellsRead, hb, ih]

theorem cellsRead_erase {α : Type} (l : List (Nat × α)) (a b : Nat) :
    cellsRead (cellsErase l a) b = if b = a then none else cellsRead l b := by
  induction l with
  | nil => simp [cellsErase, cellsRead]
  | cons c rest ih =>
    obtain ⟨k, w⟩ := c
    by_cases hk : k = a
    · subst hk
      by_cases hb : b = k
      · subst hb; simp [cellsErase, ih]
      · simp [cellsErase, ih, hb, cellsRead, Ne.symm hb]
    · by_cases hb : k = b
      · subst hb; simp [cellsErase, hk, cellsRead]
      · simp [cellsErase, hk, cellsRead, hb, ih]

theorem risingAbove_mono {α : Type} {a b : Nat} (h : b ≤ a) (l : List (Nat × α)) (hl : risingAbove a l = true) :
    risingAbove b l = true := by
  cases l with
  | nil => rfl
  | cons c rest => simp only [risingAbove, Bool.and_eq_true, decide_eq_true_eq] at *; exact ⟨by omega, hl.2⟩

theorem rising_of_above {α : Type} {a : Nat} (l : List (Nat × α)) (hl : risingAbove a l = true) : rising l = true := by
  cases l with
  | nil => rfl
  | cons c rest => simp only [risingAbove, Bool.and_eq_true] at hl; exact hl.2

theorem risingAbove_insert {α : Type} (l : List (Nat × α)) (k a : Nat) (v : α) (hk : k < a)
    (hl : risingAbove k l = true) : risingAbove k (cellsInsert l a v) = true := by
  induction l generalizing k with
  | nil => simp [cellsInsert, risingAbove, hk]
  | cons c rest ih =>
    obtain ⟨b, w⟩ := c
    simp only [risingAbove, Bool.and_eq_true, decide_eq_true_eq] at hl
    by_cases hlt : a < b
    · simp [cellsInsert, hlt, risingAbove, hk, hl.2]
    · by_cases heq : a = b
      · subst heq; simp [cellsInsert, risingAbove, hk, hl.2]
      · have := ih b (by omega) hl.2
        simp [cellsInsert, hlt, heq, risingAbove, hl.1, this]

theorem rising_insert {α : Type} (l : List (Nat × α)) (a : Nat) (v : α) (hl : rising l = true) :
    rising (cellsInsert l a v) = true := by
  cases l with
  | nil => rfl
  | cons c rest =>
    obtain ⟨b, w⟩ := c
    simp only [rising] at hl
    by_cases hlt : a < b
    · simp [cellsInsert, hlt, rising, risingAbove, hl]
    · by_cases heq : a = b
      · subst heq; simpa [cellsInsert, rising] using hl
      · simpa [cellsInsert, hlt, heq, rising] using risingAbove_insert rest b a v (by omega) hl

theorem risingAbove_erase {α : Type} (l : List (Nat × α)) (k a : Nat) (hl : risingAbove k l = true) :
    risingAbove k (cellsErase l a) = true := by
  induction l generalizing k with
  | nil => rfl
  | cons c rest ih =>
    obtain ⟨b, w⟩ := c
    simp only [risingAbove, Bool.and_eq_true, decide_eq_true_eq] at hl
    by_cases hb : b = a
    · simpa [cellsErase, hb] using ih k (risingAbove_mono (by omega) rest hl.2)
    · simpa [cellsErase, hb, risingAbove, hl.1] using ih b hl.2

theorem rising_erase {α : Type} (l : List (Nat × α)) (a : Nat) (hl : rising l = true) :
    rising (cellsErase l a) = true := by
  cases l with
  | nil => rfl
  | cons c rest =>
    obtain ⟨b, w⟩ := c
    simp only [rising] at hl
    by_cases hb : b = a
    · simpa [cellsErase, hb] using rising_of_above _ (risingAbove_erase rest b a hl)
    · simpa [cellsErase, hb, rising] using risingAbove_erase rest b a hl

theorem all_insert {α : Type} (p : Nat × α → Bool) (l : List (Nat × α)) (a : Nat) (v : α) (hv : p (a, v) = true)
    (hl : l.all p = true) : (cellsInsert l a v).all p = true := by
  induction l with
  | nil => simp [cellsInsert, hv]
  | cons c rest ih =>
    obtain ⟨b, w⟩ := c
    rw [List.all_cons, Bool.and_eq_true] at hl
    unfold cellsInsert
    split
    · simp only [List.all_cons, Bool.and_eq_true]; exact ⟨hv, hl⟩
    · split
      · simp only [List.all_cons, Bool.and_eq_true]; exact ⟨hv, hl.2⟩
      · simp only [List.all_cons, Bool.and_eq_true]; exact ⟨hl.1, ih hl.2⟩

theorem all_erase {α : Type} (p : Nat × α → Bool) (l : List (Nat × α)) (a : Nat) (hl : l.all p = true) :
    (cellsErase l a).all p = true := by
  induction l with
  | nil => rfl
  | cons c rest ih =>
    obtain ⟨b, w⟩ := c
    rw [List.all_cons, Bool.and_eq_true] at hl
    unfold cellsErase
    split
    · exact ih hl.2
    · simp only [List.all_cons, Bool.and_eq_true]; exact ⟨hl.1, ih hl.2⟩

theorem memoryWf_iff (m : Memory) :
    memoryWf m = true ↔
      rising m.chip = true ∧ m.chip.all (fun c => decide (c.1 < 32)) = true ∧ rising m.nvBytes = true
        ∧ m.nvBytes.all (fun c => c.2 != nvErasedByte) = true ∧ rising m.nvWords = true := by
  simp only [memoryWf, Bool.and_eq_true]; tauto

theorem chipWrite_wf (m : Memory) (a : ChipAddr) (d : Byte) (h : memoryWf m = true) :
    memoryWf (chipWrite m a d) = true := by
  rw [memoryWf_iff] at *
  exact ⟨rising_insert _ _ _ h.1, all_insert _ _ _ _ (by simpa using a.isLt) h.2.1, h.2.2⟩

theorem nvWriteByte_wf (m : Memory) (a : Nat) (b : Byte) (h : memoryWf m = true) :
    memoryWf (nvWriteByte m a b) = true := by
  rw [memoryWf_iff] at *
  obtain ⟨h1, h2, h3, h4, h5⟩ := h
  by_cases hb : b = nvErasedByte
  · simp only [nvWriteByte, hb, if_true]
    exact ⟨h1, h2, rising_erase _ _ h3, all_erase _ _ _ h4, h5⟩
  · simp only [nvWriteByte, hb, if_false]
    exact ⟨h1, h2, rising_insert _ _ _ h3, all_insert _ _ _ _ (by simp [hb]) h4, h5⟩

theorem nvWriteWord_wf (m : Memory) (a : Nat) (w : BitVec 16) (h : memoryWf m = true) :
    memoryWf (nvWriteWord m a w) = true := by
  rw [memoryWf_iff] at *
  exact ⟨h.1, h.2.1, h.2.2.1, h.2.2.2.1, rising_insert _ _ _ h.2.2.2.2⟩

theorem chipForgotten_wf (m : Memory) (h : memoryWf m = true) : memoryWf { m with chip := [] } = true := by
  rw [memoryWf_iff] at *
  exact ⟨rfl, rfl, h.2.2⟩

theorem reset_memoryWf (c : Config) : memoryWf (State.resetWith c).mem = true := rfl

end Sys2Proof.Machine
end

