-- ==== Sys2Proof/Laws/State.lean ====
section
/-! SUPPORT. Laws/State.lean: what each named update of State leaves and writes, one lemma per field per update, true
by rfl, so that no later proof unfolds a record update. -/

namespace Sys2Proof.Machine

@[simp] theorem setX_cfg (v : PerInput Sample) (s : State) : (setX v s).cfg = s.cfg := rfl
@[simp] theorem setX_x (v : PerInput Sample) (s : State) : (setX v s).x = v := rfl
@[simp] theorem setX_phase (v : PerInput Sample) (s : State) : (setX v s).phase = s.phase := rfl
@[simp] theorem setX_turn (v : PerInput Sample) (s : State) : (setX v s).turn = s.turn := rfl
@[simp] theorem setX_synth (v : PerInput Sample) (s : State) : (setX v s).synth = s.synth := rfl
@[simp] theorem setX_tuning (v : PerInput Sample) (s : State) : (setX v s).tuning = s.tuning := rfl
@[simp] theorem setX_switchMask (v : PerInput Sample) (s : State) : (setX v s).switchMask = s.switchMask := rfl
@[simp] theorem setX_ignoreMask (v : PerInput Sample) (s : State) : (setX v s).ignoreMask = s.ignoreMask := rfl
@[simp] theorem setX_flags (v : PerInput Sample) (s : State) : (setX v s).flags = s.flags := rfl
@[simp] theorem setX_mux (v : PerInput Sample) (s : State) : (setX v s).mux = s.mux := rfl
@[simp] theorem setX_pins (v : PerInput Sample) (s : State) : (setX v s).pins = s.pins := rfl
@[simp] theorem setX_led (v : PerInput Sample) (s : State) : (setX v s).led = s.led := rfl
@[simp] theorem setX_irq (v : PerInput Sample) (s : State) : (setX v s).irq = s.irq := rfl
@[simp] theorem setX_mem (v : PerInput Sample) (s : State) : (setX v s).mem = s.mem := rfl
@[simp] theorem setX_inputs (v : PerInput Sample) (s : State) : (setX v s).inputs = s.inputs := rfl
@[simp] theorem setX_request (v : PerInput Sample) (s : State) : (setX v s).request = s.request := rfl
@[simp] theorem setX_result (v : PerInput Sample) (s : State) : (setX v s).result = s.result := rfl
@[simp] theorem setX_out (v : PerInput Sample) (s : State) : (setX v s).out = s.out := rfl
@[simp] theorem setPhase_cfg (v : Phase) (s : State) : (setPhase v s).cfg = s.cfg := rfl
@[simp] theorem setPhase_x (v : Phase) (s : State) : (setPhase v s).x = s.x := rfl
@[simp] theorem setPhase_phase (v : Phase) (s : State) : (setPhase v s).phase = v := rfl
@[simp] theorem setPhase_turn (v : Phase) (s : State) : (setPhase v s).turn = s.turn := rfl
@[simp] theorem setPhase_synth (v : Phase) (s : State) : (setPhase v s).synth = s.synth := rfl
@[simp] theorem setPhase_tuning (v : Phase) (s : State) : (setPhase v s).tuning = s.tuning := rfl
@[simp] theorem setPhase_switchMask (v : Phase) (s : State) : (setPhase v s).switchMask = s.switchMask := rfl
@[simp] theorem setPhase_ignoreMask (v : Phase) (s : State) : (setPhase v s).ignoreMask = s.ignoreMask := rfl
@[simp] theorem setPhase_flags (v : Phase) (s : State) : (setPhase v s).flags = s.flags := rfl
@[simp] theorem setPhase_mux (v : Phase) (s : State) : (setPhase v s).mux = s.mux := rfl
@[simp] theorem setPhase_pins (v : Phase) (s : State) : (setPhase v s).pins = s.pins := rfl
@[simp] theorem setPhase_led (v : Phase) (s : State) : (setPhase v s).led = s.led := rfl
@[simp] theorem setPhase_irq (v : Phase) (s : State) : (setPhase v s).irq = s.irq := rfl
@[simp] theorem setPhase_mem (v : Phase) (s : State) : (setPhase v s).mem = s.mem := rfl
@[simp] theorem setPhase_inputs (v : Phase) (s : State) : (setPhase v s).inputs = s.inputs := rfl
@[simp] theorem setPhase_request (v : Phase) (s : State) : (setPhase v s).request = s.request := rfl
@[simp] theorem setPhase_result (v : Phase) (s : State) : (setPhase v s).result = s.result := rfl
@[simp] theorem setPhase_out (v : Phase) (s : State) : (setPhase v s).out = s.out := rfl
@[simp] theorem setTurn_cfg (v : BitVec 2) (s : State) : (setTurn v s).cfg = s.cfg := rfl
@[simp] theorem setTurn_x (v : BitVec 2) (s : State) : (setTurn v s).x = s.x := rfl
@[simp] theorem setTurn_phase (v : BitVec 2) (s : State) : (setTurn v s).phase = s.phase := rfl
@[simp] theorem setTurn_turn (v : BitVec 2) (s : State) : (setTurn v s).turn = v := rfl
@[simp] theorem setTurn_synth (v : BitVec 2) (s : State) : (setTurn v s).synth = s.synth := rfl
@[simp] theorem setTurn_tuning (v : BitVec 2) (s : State) : (setTurn v s).tuning = s.tuning := rfl
@[simp] theorem setTurn_switchMask (v : BitVec 2) (s : State) : (setTurn v s).switchMask = s.switchMask := rfl
@[simp] theorem setTurn_ignoreMask (v : BitVec 2) (s : State) : (setTurn v s).ignoreMask = s.ignoreMask := rfl
@[simp] theorem setTurn_flags (v : BitVec 2) (s : State) : (setTurn v s).flags = s.flags := rfl
@[simp] theorem setTurn_mux (v : BitVec 2) (s : State) : (setTurn v s).mux = s.mux := rfl
@[simp] theorem setTurn_pins (v : BitVec 2) (s : State) : (setTurn v s).pins = s.pins := rfl
@[simp] theorem setTurn_led (v : BitVec 2) (s : State) : (setTurn v s).led = s.led := rfl
@[simp] theorem setTurn_irq (v : BitVec 2) (s : State) : (setTurn v s).irq = s.irq := rfl
@[simp] theorem setTurn_mem (v : BitVec 2) (s : State) : (setTurn v s).mem = s.mem := rfl
@[simp] theorem setTurn_inputs (v : BitVec 2) (s : State) : (setTurn v s).inputs = s.inputs := rfl
@[simp] theorem setTurn_request (v : BitVec 2) (s : State) : (setTurn v s).request = s.request := rfl
@[simp] theorem setTurn_result (v : BitVec 2) (s : State) : (setTurn v s).result = s.result := rfl
@[simp] theorem setTurn_out (v : BitVec 2) (s : State) : (setTurn v s).out = s.out := rfl
@[simp] theorem setSynth_cfg (v : Synth) (s : State) : (setSynth v s).cfg = s.cfg := rfl
@[simp] theorem setSynth_x (v : Synth) (s : State) : (setSynth v s).x = s.x := rfl
@[simp] theorem setSynth_phase (v : Synth) (s : State) : (setSynth v s).phase = s.phase := rfl
@[simp] theorem setSynth_turn (v : Synth) (s : State) : (setSynth v s).turn = s.turn := rfl
@[simp] theorem setSynth_synth (v : Synth) (s : State) : (setSynth v s).synth = v := rfl
@[simp] theorem setSynth_tuning (v : Synth) (s : State) : (setSynth v s).tuning = s.tuning := rfl
@[simp] theorem setSynth_switchMask (v : Synth) (s : State) : (setSynth v s).switchMask = s.switchMask := rfl
@[simp] theorem setSynth_ignoreMask (v : Synth) (s : State) : (setSynth v s).ignoreMask = s.ignoreMask := rfl
@[simp] theorem setSynth_flags (v : Synth) (s : State) : (setSynth v s).flags = s.flags := rfl
@[simp] theorem setSynth_mux (v : Synth) (s : State) : (setSynth v s).mux = s.mux := rfl
@[simp] theorem setSynth_pins (v : Synth) (s : State) : (setSynth v s).pins = s.pins := rfl
@[simp] theorem setSynth_led (v : Synth) (s : State) : (setSynth v s).led = s.led := rfl
@[simp] theorem setSynth_irq (v : Synth) (s : State) : (setSynth v s).irq = s.irq := rfl
@[simp] theorem setSynth_mem (v : Synth) (s : State) : (setSynth v s).mem = s.mem := rfl
@[simp] theorem setSynth_inputs (v : Synth) (s : State) : (setSynth v s).inputs = s.inputs := rfl
@[simp] theorem setSynth_request (v : Synth) (s : State) : (setSynth v s).request = s.request := rfl
@[simp] theorem setSynth_result (v : Synth) (s : State) : (setSynth v s).result = s.result := rfl
@[simp] theorem setSynth_out (v : Synth) (s : State) : (setSynth v s).out = s.out := rfl
@[simp] theorem setTuning_cfg (v : Tuning) (s : State) : (setTuning v s).cfg = s.cfg := rfl
@[simp] theorem setTuning_x (v : Tuning) (s : State) : (setTuning v s).x = s.x := rfl
@[simp] theorem setTuning_phase (v : Tuning) (s : State) : (setTuning v s).phase = s.phase := rfl
@[simp] theorem setTuning_turn (v : Tuning) (s : State) : (setTuning v s).turn = s.turn := rfl
@[simp] theorem setTuning_synth (v : Tuning) (s : State) : (setTuning v s).synth = s.synth := rfl
@[simp] theorem setTuning_tuning (v : Tuning) (s : State) : (setTuning v s).tuning = v := rfl
@[simp] theorem setTuning_switchMask (v : Tuning) (s : State) : (setTuning v s).switchMask = s.switchMask := rfl
@[simp] theorem setTuning_ignoreMask (v : Tuning) (s : State) : (setTuning v s).ignoreMask = s.ignoreMask := rfl
@[simp] theorem setTuning_flags (v : Tuning) (s : State) : (setTuning v s).flags = s.flags := rfl
@[simp] theorem setTuning_mux (v : Tuning) (s : State) : (setTuning v s).mux = s.mux := rfl
@[simp] theorem setTuning_pins (v : Tuning) (s : State) : (setTuning v s).pins = s.pins := rfl
@[simp] theorem setTuning_led (v : Tuning) (s : State) : (setTuning v s).led = s.led := rfl
@[simp] theorem setTuning_irq (v : Tuning) (s : State) : (setTuning v s).irq = s.irq := rfl
@[simp] theorem setTuning_mem (v : Tuning) (s : State) : (setTuning v s).mem = s.mem := rfl
@[simp] theorem setTuning_inputs (v : Tuning) (s : State) : (setTuning v s).inputs = s.inputs := rfl
@[simp] theorem setTuning_request (v : Tuning) (s : State) : (setTuning v s).request = s.request := rfl
@[simp] theorem setTuning_result (v : Tuning) (s : State) : (setTuning v s).result = s.result := rfl
@[simp] theorem setTuning_out (v : Tuning) (s : State) : (setTuning v s).out = s.out := rfl
@[simp] theorem setSwitchMask_cfg (v : SwitchBits) (s : State) : (setSwitchMask v s).cfg = s.cfg := rfl
@[simp] theorem setSwitchMask_x (v : SwitchBits) (s : State) : (setSwitchMask v s).x = s.x := rfl
@[simp] theorem setSwitchMask_phase (v : SwitchBits) (s : State) : (setSwitchMask v s).phase = s.phase := rfl
@[simp] theorem setSwitchMask_turn (v : SwitchBits) (s : State) : (setSwitchMask v s).turn = s.turn := rfl
@[simp] theorem setSwitchMask_synth (v : SwitchBits) (s : State) : (setSwitchMask v s).synth = s.synth := rfl
@[simp] theorem setSwitchMask_tuning (v : SwitchBits) (s : State) : (setSwitchMask v s).tuning = s.tuning := rfl
@[simp] theorem setSwitchMask_switchMask (v : SwitchBits) (s : State) : (setSwitchMask v s).switchMask = v := rfl
@[simp] theorem setSwitchMask_ignoreMask (v : SwitchBits) (s : State) : (setSwitchMask v s).ignoreMask = s.ignoreMask := rfl
@[simp] theorem setSwitchMask_flags (v : SwitchBits) (s : State) : (setSwitchMask v s).flags = s.flags := rfl
@[simp] theorem setSwitchMask_mux (v : SwitchBits) (s : State) : (setSwitchMask v s).mux = s.mux := rfl
@[simp] theorem setSwitchMask_pins (v : SwitchBits) (s : State) : (setSwitchMask v s).pins = s.pins := rfl
@[simp] theorem setSwitchMask_led (v : SwitchBits) (s : State) : (setSwitchMask v s).led = s.led := rfl
@[simp] theorem setSwitchMask_irq (v : SwitchBits) (s : State) : (setSwitchMask v s).irq = s.irq := rfl
@[simp] theorem setSwitchMask_mem (v : SwitchBits) (s : State) : (setSwitchMask v s).mem = s.mem := rfl
@[simp] theorem setSwitchMask_inputs (v : SwitchBits) (s : State) : (setSwitchMask v s).inputs = s.inputs := rfl
@[simp] theorem setSwitchMask_request (v : SwitchBits) (s : State) : (setSwitchMask v s).request = s.request := rfl
@[simp] theorem setSwitchMask_result (v : SwitchBits) (s : State) : (setSwitchMask v s).result = s.result := rfl
@[simp] theorem setSwitchMask_out (v : SwitchBits) (s : State) : (setSwitchMask v s).out = s.out := rfl
@[simp] theorem setIgnoreMask_cfg (v : SwitchBits) (s : State) : (setIgnoreMask v s).cfg = s.cfg := rfl
@[simp] theorem setIgnoreMask_x (v : SwitchBits) (s : State) : (setIgnoreMask v s).x = s.x := rfl
@[simp] theorem setIgnoreMask_phase (v : SwitchBits) (s : State) : (setIgnoreMask v s).phase = s.phase := rfl
@[simp] theorem setIgnoreMask_turn (v : SwitchBits) (s : State) : (setIgnoreMask v s).turn = s.turn := rfl
@[simp] theorem setIgnoreMask_synth (v : SwitchBits) (s : State) : (setIgnoreMask v s).synth = s.synth := rfl
@[simp] theorem setIgnoreMask_tuning (v : SwitchBits) (s : State) : (setIgnoreMask v s).tuning = s.tuning := rfl
@[simp] theorem setIgnoreMask_switchMask (v : SwitchBits) (s : State) : (setIgnoreMask v s).switchMask = s.switchMask := rfl
@[simp] theorem setIgnoreMask_ignoreMask (v : SwitchBits) (s : State) : (setIgnoreMask v s).ignoreMask = v := rfl
@[simp] theorem setIgnoreMask_flags (v : SwitchBits) (s : State) : (setIgnoreMask v s).flags = s.flags := rfl
@[simp] theorem setIgnoreMask_mux (v : SwitchBits) (s : State) : (setIgnoreMask v s).mux = s.mux := rfl
@[simp] theorem setIgnoreMask_pins (v : SwitchBits) (s : State) : (setIgnoreMask v s).pins = s.pins := rfl
@[simp] theorem setIgnoreMask_led (v : SwitchBits) (s : State) : (setIgnoreMask v s).led = s.led := rfl
@[simp] theorem setIgnoreMask_irq (v : SwitchBits) (s : State) : (setIgnoreMask v s).irq = s.irq := rfl
@[simp] theorem setIgnoreMask_mem (v : SwitchBits) (s : State) : (setIgnoreMask v s).mem = s.mem := rfl
@[simp] theorem setIgnoreMask_inputs (v : SwitchBits) (s : State) : (setIgnoreMask v s).inputs = s.inputs := rfl
@[simp] theorem setIgnoreMask_request (v : SwitchBits) (s : State) : (setIgnoreMask v s).request = s.request := rfl
@[simp] theorem setIgnoreMask_result (v : SwitchBits) (s : State) : (setIgnoreMask v s).result = s.result := rfl
@[simp] theorem setIgnoreMask_out (v : SwitchBits) (s : State) : (setIgnoreMask v s).out = s.out := rfl
@[simp] theorem setFlags_cfg (v : Flags) (s : State) : (setFlags v s).cfg = s.cfg := rfl
@[simp] theorem setFlags_x (v : Flags) (s : State) : (setFlags v s).x = s.x := rfl
@[simp] theorem setFlags_phase (v : Flags) (s : State) : (setFlags v s).phase = s.phase := rfl
@[simp] theorem setFlags_turn (v : Flags) (s : State) : (setFlags v s).turn = s.turn := rfl
@[simp] theorem setFlags_synth (v : Flags) (s : State) : (setFlags v s).synth = s.synth := rfl
@[simp] theorem setFlags_tuning (v : Flags) (s : State) : (setFlags v s).tuning = s.tuning := rfl
@[simp] theorem setFlags_switchMask (v : Flags) (s : State) : (setFlags v s).switchMask = s.switchMask := rfl
@[simp] theorem setFlags_ignoreMask (v : Flags) (s : State) : (setFlags v s).ignoreMask = s.ignoreMask := rfl
@[simp] theorem setFlags_flags (v : Flags) (s : State) : (setFlags v s).flags = v := rfl
@[simp] theorem setFlags_mux (v : Flags) (s : State) : (setFlags v s).mux = s.mux := rfl
@[simp] theorem setFlags_pins (v : Flags) (s : State) : (setFlags v s).pins = s.pins := rfl
@[simp] theorem setFlags_led (v : Flags) (s : State) : (setFlags v s).led = s.led := rfl
@[simp] theorem setFlags_irq (v : Flags) (s : State) : (setFlags v s).irq = s.irq := rfl
@[simp] theorem setFlags_mem (v : Flags) (s : State) : (setFlags v s).mem = s.mem := rfl
@[simp] theorem setFlags_inputs (v : Flags) (s : State) : (setFlags v s).inputs = s.inputs := rfl
@[simp] theorem setFlags_request (v : Flags) (s : State) : (setFlags v s).request = s.request := rfl
@[simp] theorem setFlags_result (v : Flags) (s : State) : (setFlags v s).result = s.result := rfl
@[simp] theorem setFlags_out (v : Flags) (s : State) : (setFlags v s).out = s.out := rfl
@[simp] theorem setMux_cfg (v : Mux) (s : State) : (setMux v s).cfg = s.cfg := rfl
@[simp] theorem setMux_x (v : Mux) (s : State) : (setMux v s).x = s.x := rfl
@[simp] theorem setMux_phase (v : Mux) (s : State) : (setMux v s).phase = s.phase := rfl
@[simp] theorem setMux_turn (v : Mux) (s : State) : (setMux v s).turn = s.turn := rfl
@[simp] theorem setMux_synth (v : Mux) (s : State) : (setMux v s).synth = s.synth := rfl
@[simp] theorem setMux_tuning (v : Mux) (s : State) : (setMux v s).tuning = s.tuning := rfl
@[simp] theorem setMux_switchMask (v : Mux) (s : State) : (setMux v s).switchMask = s.switchMask := rfl
@[simp] theorem setMux_ignoreMask (v : Mux) (s : State) : (setMux v s).ignoreMask = s.ignoreMask := rfl
@[simp] theorem setMux_flags (v : Mux) (s : State) : (setMux v s).flags = s.flags := rfl
@[simp] theorem setMux_mux (v : Mux) (s : State) : (setMux v s).mux = v := rfl
@[simp] theorem setMux_pins (v : Mux) (s : State) : (setMux v s).pins = s.pins := rfl
@[simp] theorem setMux_led (v : Mux) (s : State) : (setMux v s).led = s.led := rfl
@[simp] theorem setMux_irq (v : Mux) (s : State) : (setMux v s).irq = s.irq := rfl
@[simp] theorem setMux_mem (v : Mux) (s : State) : (setMux v s).mem = s.mem := rfl
@[simp] theorem setMux_inputs (v : Mux) (s : State) : (setMux v s).inputs = s.inputs := rfl
@[simp] theorem setMux_request (v : Mux) (s : State) : (setMux v s).request = s.request := rfl
@[simp] theorem setMux_result (v : Mux) (s : State) : (setMux v s).result = s.result := rfl
@[simp] theorem setMux_out (v : Mux) (s : State) : (setMux v s).out = s.out := rfl
@[simp] theorem setPins_cfg (v : Pins) (s : State) : (setPins v s).cfg = s.cfg := rfl
@[simp] theorem setPins_x (v : Pins) (s : State) : (setPins v s).x = s.x := rfl
@[simp] theorem setPins_phase (v : Pins) (s : State) : (setPins v s).phase = s.phase := rfl
@[simp] theorem setPins_turn (v : Pins) (s : State) : (setPins v s).turn = s.turn := rfl
@[simp] theorem setPins_synth (v : Pins) (s : State) : (setPins v s).synth = s.synth := rfl
@[simp] theorem setPins_tuning (v : Pins) (s : State) : (setPins v s).tuning = s.tuning := rfl
@[simp] theorem setPins_switchMask (v : Pins) (s : State) : (setPins v s).switchMask = s.switchMask := rfl
@[simp] theorem setPins_ignoreMask (v : Pins) (s : State) : (setPins v s).ignoreMask = s.ignoreMask := rfl
@[simp] theorem setPins_flags (v : Pins) (s : State) : (setPins v s).flags = s.flags := rfl
@[simp] theorem setPins_mux (v : Pins) (s : State) : (setPins v s).mux = s.mux := rfl
@[simp] theorem setPins_pins (v : Pins) (s : State) : (setPins v s).pins = v := rfl
@[simp] theorem setPins_led (v : Pins) (s : State) : (setPins v s).led = s.led := rfl
@[simp] theorem setPins_irq (v : Pins) (s : State) : (setPins v s).irq = s.irq := rfl
@[simp] theorem setPins_mem (v : Pins) (s : State) : (setPins v s).mem = s.mem := rfl
@[simp] theorem setPins_inputs (v : Pins) (s : State) : (setPins v s).inputs = s.inputs := rfl
@[simp] theorem setPins_request (v : Pins) (s : State) : (setPins v s).request = s.request := rfl
@[simp] theorem setPins_result (v : Pins) (s : State) : (setPins v s).result = s.result := rfl
@[simp] theorem setPins_out (v : Pins) (s : State) : (setPins v s).out = s.out := rfl
@[simp] theorem setLed_cfg (v : Led) (s : State) : (setLed v s).cfg = s.cfg := rfl
@[simp] theorem setLed_x (v : Led) (s : State) : (setLed v s).x = s.x := rfl
@[simp] theorem setLed_phase (v : Led) (s : State) : (setLed v s).phase = s.phase := rfl
@[simp] theorem setLed_turn (v : Led) (s : State) : (setLed v s).turn = s.turn := rfl
@[simp] theorem setLed_synth (v : Led) (s : State) : (setLed v s).synth = s.synth := rfl
@[simp] theorem setLed_tuning (v : Led) (s : State) : (setLed v s).tuning = s.tuning := rfl
@[simp] theorem setLed_switchMask (v : Led) (s : State) : (setLed v s).switchMask = s.switchMask := rfl
@[simp] theorem setLed_ignoreMask (v : Led) (s : State) : (setLed v s).ignoreMask = s.ignoreMask := rfl
@[simp] theorem setLed_flags (v : Led) (s : State) : (setLed v s).flags = s.flags := rfl
@[simp] theorem setLed_mux (v : Led) (s : State) : (setLed v s).mux = s.mux := rfl
@[simp] theorem setLed_pins (v : Led) (s : State) : (setLed v s).pins = s.pins := rfl
@[simp] theorem setLed_led (v : Led) (s : State) : (setLed v s).led = v := rfl
@[simp] theorem setLed_irq (v : Led) (s : State) : (setLed v s).irq = s.irq := rfl
@[simp] theorem setLed_mem (v : Led) (s : State) : (setLed v s).mem = s.mem := rfl
@[simp] theorem setLed_inputs (v : Led) (s : State) : (setLed v s).inputs = s.inputs := rfl
@[simp] theorem setLed_request (v : Led) (s : State) : (setLed v s).request = s.request := rfl
@[simp] theorem setLed_result (v : Led) (s : State) : (setLed v s).result = s.result := rfl
@[simp] theorem setLed_out (v : Led) (s : State) : (setLed v s).out = s.out := rfl
@[simp] theorem setIrq_cfg (v : Irq) (s : State) : (setIrq v s).cfg = s.cfg := rfl
@[simp] theorem setIrq_x (v : Irq) (s : State) : (setIrq v s).x = s.x := rfl
@[simp] theorem setIrq_phase (v : Irq) (s : State) : (setIrq v s).phase = s.phase := rfl
@[simp] theorem setIrq_turn (v : Irq) (s : State) : (setIrq v s).turn = s.turn := rfl
@[simp] theorem setIrq_synth (v : Irq) (s : State) : (setIrq v s).synth = s.synth := rfl
@[simp] theorem setIrq_tuning (v : Irq) (s : State) : (setIrq v s).tuning = s.tuning := rfl
@[simp] theorem setIrq_switchMask (v : Irq) (s : State) : (setIrq v s).switchMask = s.switchMask := rfl
@[simp] theorem setIrq_ignoreMask (v : Irq) (s : State) : (setIrq v s).ignoreMask = s.ignoreMask := rfl
@[simp] theorem setIrq_flags (v : Irq) (s : State) : (setIrq v s).flags = s.flags := rfl
@[simp] theorem setIrq_mux (v : Irq) (s : State) : (setIrq v s).mux = s.mux := rfl
@[simp] theorem setIrq_pins (v : Irq) (s : State) : (setIrq v s).pins = s.pins := rfl
@[simp] theorem setIrq_led (v : Irq) (s : State) : (setIrq v s).led = s.led := rfl
@[simp] theorem setIrq_irq (v : Irq) (s : State) : (setIrq v s).irq = v := rfl
@[simp] theorem setIrq_mem (v : Irq) (s : State) : (setIrq v s).mem = s.mem := rfl
@[simp] theorem setIrq_inputs (v : Irq) (s : State) : (setIrq v s).inputs = s.inputs := rfl
@[simp] theorem setIrq_request (v : Irq) (s : State) : (setIrq v s).request = s.request := rfl
@[simp] theorem setIrq_result (v : Irq) (s : State) : (setIrq v s).result = s.result := rfl
@[simp] theorem setIrq_out (v : Irq) (s : State) : (setIrq v s).out = s.out := rfl
@[simp] theorem setMem_cfg (v : Memory) (s : State) : (setMem v s).cfg = s.cfg := rfl
@[simp] theorem setMem_x (v : Memory) (s : State) : (setMem v s).x = s.x := rfl
@[simp] theorem setMem_phase (v : Memory) (s : State) : (setMem v s).phase = s.phase := rfl
@[simp] theorem setMem_turn (v : Memory) (s : State) : (setMem v s).turn = s.turn := rfl
@[simp] theorem setMem_synth (v : Memory) (s : State) : (setMem v s).synth = s.synth := rfl
@[simp] theorem setMem_tuning (v : Memory) (s : State) : (setMem v s).tuning = s.tuning := rfl
@[simp] theorem setMem_switchMask (v : Memory) (s : State) : (setMem v s).switchMask = s.switchMask := rfl
@[simp] theorem setMem_ignoreMask (v : Memory) (s : State) : (setMem v s).ignoreMask = s.ignoreMask := rfl
@[simp] theorem setMem_flags (v : Memory) (s : State) : (setMem v s).flags = s.flags := rfl
@[simp] theorem setMem_mux (v : Memory) (s : State) : (setMem v s).mux = s.mux := rfl
@[simp] theorem setMem_pins (v : Memory) (s : State) : (setMem v s).pins = s.pins := rfl
@[simp] theorem setMem_led (v : Memory) (s : State) : (setMem v s).led = s.led := rfl
@[simp] theorem setMem_irq (v : Memory) (s : State) : (setMem v s).irq = s.irq := rfl
@[simp] theorem setMem_mem (v : Memory) (s : State) : (setMem v s).mem = v := rfl
@[simp] theorem setMem_inputs (v : Memory) (s : State) : (setMem v s).inputs = s.inputs := rfl
@[simp] theorem setMem_request (v : Memory) (s : State) : (setMem v s).request = s.request := rfl
@[simp] theorem setMem_result (v : Memory) (s : State) : (setMem v s).result = s.result := rfl
@[simp] theorem setMem_out (v : Memory) (s : State) : (setMem v s).out = s.out := rfl
@[simp] theorem setInputs_cfg (v : Inputs) (s : State) : (setInputs v s).cfg = s.cfg := rfl
@[simp] theorem setInputs_x (v : Inputs) (s : State) : (setInputs v s).x = s.x := rfl
@[simp] theorem setInputs_phase (v : Inputs) (s : State) : (setInputs v s).phase = s.phase := rfl
@[simp] theorem setInputs_turn (v : Inputs) (s : State) : (setInputs v s).turn = s.turn := rfl
@[simp] theorem setInputs_synth (v : Inputs) (s : State) : (setInputs v s).synth = s.synth := rfl
@[simp] theorem setInputs_tuning (v : Inputs) (s : State) : (setInputs v s).tuning = s.tuning := rfl
@[simp] theorem setInputs_switchMask (v : Inputs) (s : State) : (setInputs v s).switchMask = s.switchMask := rfl
@[simp] theorem setInputs_ignoreMask (v : Inputs) (s : State) : (setInputs v s).ignoreMask = s.ignoreMask := rfl
@[simp] theorem setInputs_flags (v : Inputs) (s : State) : (setInputs v s).flags = s.flags := rfl
@[simp] theorem setInputs_mux (v : Inputs) (s : State) : (setInputs v s).mux = s.mux := rfl
@[simp] theorem setInputs_pins (v : Inputs) (s : State) : (setInputs v s).pins = s.pins := rfl
@[simp] theorem setInputs_led (v : Inputs) (s : State) : (setInputs v s).led = s.led := rfl
@[simp] theorem setInputs_irq (v : Inputs) (s : State) : (setInputs v s).irq = s.irq := rfl
@[simp] theorem setInputs_mem (v : Inputs) (s : State) : (setInputs v s).mem = s.mem := rfl
@[simp] theorem setInputs_inputs (v : Inputs) (s : State) : (setInputs v s).inputs = v := rfl
@[simp] theorem setInputs_request (v : Inputs) (s : State) : (setInputs v s).request = s.request := rfl
@[simp] theorem setInputs_result (v : Inputs) (s : State) : (setInputs v s).result = s.result := rfl
@[simp] theorem setInputs_out (v : Inputs) (s : State) : (setInputs v s).out = s.out := rfl
@[simp] theorem setRequest_cfg (v : Option Call) (s : State) : (setRequest v s).cfg = s.cfg := rfl
@[simp] theorem setRequest_x (v : Option Call) (s : State) : (setRequest v s).x = s.x := rfl
@[simp] theorem setRequest_phase (v : Option Call) (s : State) : (setRequest v s).phase = s.phase := rfl
@[simp] theorem setRequest_turn (v : Option Call) (s : State) : (setRequest v s).turn = s.turn := rfl
@[simp] theorem setRequest_synth (v : Option Call) (s : State) : (setRequest v s).synth = s.synth := rfl
@[simp] theorem setRequest_tuning (v : Option Call) (s : State) : (setRequest v s).tuning = s.tuning := rfl
@[simp] theorem setRequest_switchMask (v : Option Call) (s : State) : (setRequest v s).switchMask = s.switchMask := rfl
@[simp] theorem setRequest_ignoreMask (v : Option Call) (s : State) : (setRequest v s).ignoreMask = s.ignoreMask := rfl
@[simp] theorem setRequest_flags (v : Option Call) (s : State) : (setRequest v s).flags = s.flags := rfl
@[simp] theorem setRequest_mux (v : Option Call) (s : State) : (setRequest v s).mux = s.mux := rfl
@[simp] theorem setRequest_pins (v : Option Call) (s : State) : (setRequest v s).pins = s.pins := rfl
@[simp] theorem setRequest_led (v : Option Call) (s : State) : (setRequest v s).led = s.led := rfl
@[simp] theorem setRequest_irq (v : Option Call) (s : State) : (setRequest v s).irq = s.irq := rfl
@[simp] theorem setRequest_mem (v : Option Call) (s : State) : (setRequest v s).mem = s.mem := rfl
@[simp] theorem setRequest_inputs (v : Option Call) (s : State) : (setRequest v s).inputs = s.inputs := rfl
@[simp] theorem setRequest_request (v : Option Call) (s : State) : (setRequest v s).request = v := rfl
@[simp] theorem setRequest_result (v : Option Call) (s : State) : (setRequest v s).result = s.result := rfl
@[simp] theorem setRequest_out (v : Option Call) (s : State) : (setRequest v s).out = s.out := rfl
@[simp] theorem setResult_cfg (v : BitVec 16) (s : State) : (setResult v s).cfg = s.cfg := rfl
@[simp] theorem setResult_x (v : BitVec 16) (s : State) : (setResult v s).x = s.x := rfl
@[simp] theorem setResult_phase (v : BitVec 16) (s : State) : (setResult v s).phase = s.phase := rfl
@[simp] theorem setResult_turn (v : BitVec 16) (s : State) : (setResult v s).turn = s.turn := rfl
@[simp] theorem setResult_synth (v : BitVec 16) (s : State) : (setResult v s).synth = s.synth := rfl
@[simp] theorem setResult_tuning (v : BitVec 16) (s : State) : (setResult v s).tuning = s.tuning := rfl
@[simp] theorem setResult_switchMask (v : BitVec 16) (s : State) : (setResult v s).switchMask = s.switchMask := rfl
@[simp] theorem setResult_ignoreMask (v : BitVec 16) (s : State) : (setResult v s).ignoreMask = s.ignoreMask := rfl
@[simp] theorem setResult_flags (v : BitVec 16) (s : State) : (setResult v s).flags = s.flags := rfl
@[simp] theorem setResult_mux (v : BitVec 16) (s : State) : (setResult v s).mux = s.mux := rfl
@[simp] theorem setResult_pins (v : BitVec 16) (s : State) : (setResult v s).pins = s.pins := rfl
@[simp] theorem setResult_led (v : BitVec 16) (s : State) : (setResult v s).led = s.led := rfl
@[simp] theorem setResult_irq (v : BitVec 16) (s : State) : (setResult v s).irq = s.irq := rfl
@[simp] theorem setResult_mem (v : BitVec 16) (s : State) : (setResult v s).mem = s.mem := rfl
@[simp] theorem setResult_inputs (v : BitVec 16) (s : State) : (setResult v s).inputs = s.inputs := rfl
@[simp] theorem setResult_request (v : BitVec 16) (s : State) : (setResult v s).request = s.request := rfl
@[simp] theorem setResult_result (v : BitVec 16) (s : State) : (setResult v s).result = v := rfl
@[simp] theorem setResult_out (v : BitVec 16) (s : State) : (setResult v s).out = s.out := rfl
@[simp] theorem setOut_cfg (v : List Output) (s : State) : (setOut v s).cfg = s.cfg := rfl
@[simp] theorem setOut_x (v : List Output) (s : State) : (setOut v s).x = s.x := rfl
@[simp] theorem setOut_phase (v : List Output) (s : State) : (setOut v s).phase = s.phase := rfl
@[simp] theorem setOut_turn (v : List Output) (s : State) : (setOut v s).turn = s.turn := rfl
@[simp] theorem setOut_synth (v : List Output) (s : State) : (setOut v s).synth = s.synth := rfl
@[simp] theorem setOut_tuning (v : List Output) (s : State) : (setOut v s).tuning = s.tuning := rfl
@[simp] theorem setOut_switchMask (v : List Output) (s : State) : (setOut v s).switchMask = s.switchMask := rfl
@[simp] theorem setOut_ignoreMask (v : List Output) (s : State) : (setOut v s).ignoreMask = s.ignoreMask := rfl
@[simp] theorem setOut_flags (v : List Output) (s : State) : (setOut v s).flags = s.flags := rfl
@[simp] theorem setOut_mux (v : List Output) (s : State) : (setOut v s).mux = s.mux := rfl
@[simp] theorem setOut_pins (v : List Output) (s : State) : (setOut v s).pins = s.pins := rfl
@[simp] theorem setOut_led (v : List Output) (s : State) : (setOut v s).led = s.led := rfl
@[simp] theorem setOut_irq (v : List Output) (s : State) : (setOut v s).irq = s.irq := rfl
@[simp] theorem setOut_mem (v : List Output) (s : State) : (setOut v s).mem = s.mem := rfl
@[simp] theorem setOut_inputs (v : List Output) (s : State) : (setOut v s).inputs = s.inputs := rfl
@[simp] theorem setOut_request (v : List Output) (s : State) : (setOut v s).request = s.request := rfl
@[simp] theorem setOut_result (v : List Output) (s : State) : (setOut v s).result = s.result := rfl
@[simp] theorem setOut_out (v : List Output) (s : State) : (setOut v s).out = v := rfl

end Sys2Proof.Machine
end

