-- ==== Sys2Proof/Laws/Ops.lean ====
section
/-! SUPPORT. Laws/Ops.lean: for each shared operation, once, everything it can do, so that a proof about a meaning
cites the lemma and does not unfold the operation. -/

namespace Sys2Proof.Machine

/-! ## andThen -/

@[simp] theorem andThen_next {α β : Type} (a : α) (f : α → Res β) : andThen (.next a) f = f a := rfl
@[simp] theorem andThen_fault {α β : Type} (r : Fault) (f : α → Res β) :
    andThen (.fault r : Res α) f = .fault r := rfl
@[simp] theorem andThen_refused {α β : Type} (r : Refusal) (f : α → Res β) :
    andThen (.refused r : Res α) f = .refused r := rfl

theorem andThen_eq_next {α β : Type} (o : Res α) (f : α → Res β) (b : β) :
    andThen o f = .next b ↔ ∃ a, o = .next a ∧ f a = .next b := by
  cases o <;> simp

/-! ## Pure updates, as one record -/

theorem goto_eq (p : Phase) (s : State) : goto p s = { s with phase := p, turn := 0 } := rfl
theorem nextTurn_eq (t : BitVec 2) (s : State) : nextTurn t s = { s with turn := t } := rfl
theorem endCall_eq (s : State) : endCall s = { s with request := none } := rfl
theorem endCallWith_eq (r : BitVec 16) (s : State) : endCallWith r s = { s with result := r, request := none } := rfl
theorem emit_eq (os : List Output) (s : State) : emit os s = { s with out := s.out ++ os } := rfl
theorem consume_eq (m : SwitchBits) (s : State) : consume m s = { s with ignoreMask := s.ignoreMask ||| m } := rfl
theorem raiseCtrl_eq (s : State) : raiseCtrl s = { s with flags := { s.flags with ctrlDirty := true } } := rfl
theorem tickEntry_eq (s : State) :
    tickEntry s = { s with irq := { s.irq with pending := false }, phase := 1, turn := 0 } := rfl

/-! ## Selecting and sampling -/

theorem selectChannel_eq (ch : ChannelId) (s : State) :
    selectChannel ch s =
      { s with mux := { sel := ch, selCh := ch, settled := true }, out := s.out ++ [.select ch, .settle s.cfg.tSettle] } := by
  simp [selectChannel, setMux, emit, setOut]

theorem readAnalog_scripted (s : State) (v : Sample) (rest : List AdcAnswer) (hs : s.mux.settled = true)
    (ha : s.inputs.adc = .sample v :: rest) : readAnalog s = .next (sampleTaken rest s, v) := by
  simp [readAnalog, hs, ha]

theorem readAnalog_free (s : State) (hs : s.mux.settled = true) (ha : s.inputs.adc = []) :
    readAnalog s = .next (sampleTaken [] s, Config.freeSample s.inputs.taken) := by
  simp [readAnalog, hs, ha]

theorem readAnalog_never (s : State) (rest : List AdcAnswer) (hs : s.mux.settled = true)
    (ha : s.inputs.adc = .never :: rest) : readAnalog s = .fault .hwUnavailable := by
  simp [readAnalog, hs, ha]

theorem readAnalog_unsettled (s : State) (hs : s.mux.settled = false) : readAnalog s = .refused .notSettled := by
  simp [readAnalog, hs]

/-- All a read can do: a sample, a converter that never answers, or a refusal for an unsettled line. -/
theorem readAnalog_cases (s : State) :
    (∃ rest v, readAnalog s = .next (sampleTaken rest s, v) ∧ rest = s.inputs.adc.tail ∧ s.mux.settled = true)
      ∨ (readAnalog s = .fault .hwUnavailable ∧ s.mux.settled = true ∧ converterAnswers s = false)
      ∨ (readAnalog s = .refused .notSettled ∧ s.mux.settled = false) := by
  by_cases hs : s.mux.settled = true
  · match ha : s.inputs.adc with
    | [] => exact .inl ⟨[], _, readAnalog_free s hs ha, by simp, hs⟩
    | .sample v :: rest => exact .inl ⟨rest, v, readAnalog_scripted s v rest hs ha, by simp, hs⟩
    | .never :: rest =>
      exact .inr (.inl ⟨readAnalog_never s rest hs ha, hs, by simp [converterAnswers, ha]⟩)
  · exact .inr (.inr ⟨readAnalog_unsettled s (by simpa using hs), by simpa using hs⟩)

/-! ## Values read from samples and masks -/

theorem pressed_iff (v : Sample) : pressed v = true ↔ 512 < v.toNat := by
  simp [pressed]

theorem maskBit_eq (m : SwitchBits) (x : Switch) :
    maskBit m x = m.getLsbD (match x with | .filter => 0 | .waveform => 1 | .ringsync => 2) := by
  revert m; cases x <;> decide

/-- The index sum of R110 never wraps. -/
theorem tableIndex_eq (raw off : BitVec 10) : tableIndex raw off = raw.toNat + off.toNat := by
  simp [tableIndex]; omega

theorem zeroExtend_sample (v : BitVec 10) : v.setWidth 16 = 0#6 ++ v := by
  apply BitVec.eq_of_toNat_eq
  have h := BitVec.toNat_append (0#6) v
  simp only [BitVec.toNat_setWidth, Nat.zero_shiftLeft, BitVec.toNat_ofNat, Nat.zero_mod, Nat.zero_or] at *
  exact h ▸ Nat.mod_eq_of_lt (by omega)

/-! ## The register write driver -/

/-- A register write from idle pins leaves exactly the state of R120's postcondition and R126's trace. -/
theorem chipStore_idle (a : ChipAddr) (d : Byte) (s : State) (h : driverIdle s = true) :
    chipStore a d s = .next (afterStore a d s) := by
  have hp : s.pins.csN = true ∧ s.pins.ale = !s.cfg.aleActive := by
    simpa [driverIdle] using h
  have hb : busNibble a = 0#4 ++ a.extractLsb' 0 4 := by
    have : ∀ b : BitVec 5, busNibble b = 0#4 ++ b.extractLsb' 0 4 := by decide
    exact this a
  simp [chipStore, h, drvStep1, drvStep2, drvStep3, pinEvent, emit, afterStore, pinTrace, setPins, setOut, setMem,
    busLatch, hb, hp.1, hp.2]

theorem chipStore_busy (a : ChipAddr) (d : Byte) (s : State) (h : driverIdle s = false) :
    chipStore a d s = .refused .driverBusy := by
  simp [chipStore, h]

@[simp] theorem afterStore_idle (a : ChipAddr) (d : Byte) (s : State) : driverIdle (afterStore a d s) = true := by
  simp [driverIdle, afterStore]

theorem chipStore2_idle (a : ChipAddr) (d : Byte) (b : ChipAddr) (e : Byte) (s : State) (h : driverIdle s = true) :
    chipStore2 a d b e s = .next (afterStore b e (afterStore a d s)) := by
  simp [chipStore2, chipStore_idle _ _ _ h, chipStore_idle]

theorem chipStore_eq_next (a : ChipAddr) (d : Byte) (s t : State) :
    chipStore a d s = .next t ↔ driverIdle s = true ∧ t = afterStore a d s := by
  by_cases h : driverIdle s = true
  · simp [chipStore_idle _ _ _ h, h, eq_comm]
  · simp [chipStore, h]

theorem chipStore2_eq_next (a : ChipAddr) (d : Byte) (b : ChipAddr) (e : Byte) (s t : State) :
    chipStore2 a d b e s = .next t ↔ driverIdle s = true ∧ t = afterStore b e (afterStore a d s) := by
  by_cases h : driverIdle s = true
  · simp [chipStore2_idle _ _ _ _ _ h, h, eq_comm]
  · simp [chipStore2, chipStore, h]

/-- The fields a register write leaves alone. -/
@[simp] theorem afterStore_frame (a : ChipAddr) (d : Byte) (s : State) :
    (afterStore a d s).cfg = s.cfg ∧ (afterStore a d s).x = s.x ∧ (afterStore a d s).phase = s.phase
      ∧ (afterStore a d s).turn = s.turn ∧ (afterStore a d s).synth = s.synth ∧ (afterStore a d s).tuning = s.tuning
      ∧ (afterStore a d s).switchMask = s.switchMask ∧ (afterStore a d s).ignoreMask = s.ignoreMask
      ∧ (afterStore a d s).flags = s.flags ∧ (afterStore a d s).mux = s.mux ∧ (afterStore a d s).led = s.led
      ∧ (afterStore a d s).irq = s.irq ∧ (afterStore a d s).inputs = s.inputs
      ∧ (afterStore a d s).request = s.request ∧ (afterStore a d s).result = s.result := by
  simp [afterStore]

theorem chipRead_chipWrite (m : Memory) (a b : ChipAddr) (d : Byte) :
    chipRead (chipWrite m a d) b = if b = a then some d else chipRead m b := by
  simp [chipRead, chipWrite, cellsRead_insert, BitVec.toNat_inj]

/-! ## Saves with the tick masked -/

theorem saveByteMasked_eq (a : Nat) (b : Byte) (s : State) :
    saveByteMasked a b s =
      { s with
        irq := { s.irq with saved := s.irq.tickMasked }
        mem := nvWriteByte s.mem a b
        out := s.out ++ [.saveByte a b] } := by
  simp [saveByteMasked, intDisable, intRestore, setIrq, setMem, emit, setOut]

theorem saveWordMasked_eq (a : Nat) (w : BitVec 16) (s : State) :
    saveWordMasked a w s =
      { s with
        irq := { s.irq with saved := s.irq.tickMasked }
        mem := nvWriteWord s.mem a w
        out := s.out ++ [.saveWord a w] } := by
  simp [saveWordMasked, intDisable, intRestore, setIrq, setMem, emit, setOut]

/-! ## Transitions that raise a flag -/

theorem setWaveform_same (s : State) : setWaveform s.synth.waveform s = s := by simp [setWaveform]

theorem setWaveform_new (v : Byte) (s : State) (h : v ≠ s.synth.waveform) :
    setWaveform v s =
      { s with synth := { s.synth with waveform := v }, flags := { s.flags with ctrlDirty := true } } := by
  simp [setWaveform, h, raiseCtrl, setSynth, setFlags]

theorem setO3_same (s : State) : setO3 s.synth.oscillator3Mode s = s := by simp [setO3]

theorem setO3_new (m : BitVec 2) (s : State) (h : m ≠ s.synth.oscillator3Mode) :
    setO3 m s =
      { s with
        synth := { s.synth with oscillator3Mode := m }
        flags := { s.flags with ctrlDirty := true, ctrlResync := s.flags.ctrlResync || decide (m = 0#2) } } := by
  by_cases hm : m = 0#2
  · subst hm; simp [setO3, h, o3None, raiseCtrlResync, setSynth, setFlags]
  · simp [setO3, h, hm, o3None, raiseCtrl, setSynth, setFlags]

/-! ## The step -/

theorem fetchCode_sequencer (s : State) (h : s.request = none) :
    fetchCode s = .next (.seq s.phase s.turn (swdWord s)) := by
  simp [fetchCode, h]

theorem fetchCode_call (s : State) (c : Call) (h : s.request = some c) (hp : insideTick s.phase = true) :
    fetchCode s = .next (.call c) := by
  simp [fetchCode, h, hp]

theorem fetchCode_outside (s : State) (c : Call) (h : s.request = some c) (hp : insideTick s.phase = false) :
    fetchCode s = .refused .outsideTick := by
  simp [fetchCode, h, hp]

/-- All that can arrive before an operation and let the step go on. -/
theorem arrive_eq_next (s t : State) :
    arrive s = .next t ↔
      (s.inputs.events = [] ∧ t = s)
        ∨ (∃ es, s.inputs.events = .quiet :: es ∧ t = dropEvent es s)
        ∨ (∃ es, s.inputs.events = .tick :: es ∧ t = tickArrives (dropEvent es s))
        ∨ (∃ es, s.inputs.events = .reset :: es ∧ t = resetEntry (dropEvent es s)) := by
  have comm : ∀ u : State, (Host.Outcome.next u : Res State) = .next t ↔ t = u := fun u => by
    rw [Host.Outcome.next.injEq]; exact eq_comm
  unfold arrive
  split <;> rename_i h <;> simp [h, invocationArrives, comm]

theorem step_eq_next (s t : State) :
    step s = .next t ↔
      ∃ s1 k i, arrive s = .next s1 ∧ fetchCode s1 = .next k ∧ decode s1.cfg k = .ok i ∧ exec i s1 = .next t := by
  simp only [step, runNext, andThen_eq_next, decodeCode]
  constructor
  · rintro ⟨s1, h1, k, h2, i, h3, h4⟩
    cases hd : decode s1.cfg k with
    | ok j => simp [hd] at h3; exact ⟨s1, k, j, h1, h2, hd, h3 ▸ h4⟩
    | error e => simp [hd] at h3
  · rintro ⟨s1, k, i, h1, h2, h3, h4⟩
    exact ⟨s1, h1, k, h2, i, by simp [h3], h4⟩

end Sys2Proof.Machine
end

