-- ==== Sys2Proof/Laws/PerInstr.lean ====
section
/-! SUPPORT. Laws/PerInstr.lean: one family of lemmas over all operations: the code the encoder writes for an operation
fits that operation's row of spec/opcode_table.json, whose format, phase, mask and match are written out here from the
table. -/

namespace Sys2Proof.Laws.TableRow

/-- One row of the opcode table. -/
inductive Row where
  /-- Format `SEL`. -/
  | sel
  /-- Format `none`: invoked by name. -/
  | named (op : OpName)
  /-- Format `CMD` with mask 0: any command word, the operand pair of `DRV.WR`. -/
  | drv
  /-- Format `CMD` with a mask and match, under the table's reference addresses. -/
  | cmd (mask value : BitVec 13)
  /-- Format `PH`: the phase number. -/
  | ph (value : Phase)
  /-- Format `SWD`: the phase that tests it, mask and match. -/
  | swd (phase : Phase) (mask value : BitVec 8)
  /-- Format `SWD`: every word that does not match. -/
  | swdNot (phase : Phase) (mask value : BitVec 8)

/-- The row of each operation. -/
def rowOf (i : Instr) : Row :=
  match i with
  | .muxSel _ => .sel
  | .muxRda => .named .muxRda
  | .muxRdd _ => .named .muxRdd
  | .debFresh _ => .named .debFresh
  | .debConsume _ => .named .debConsume
  | .ftXlt _ _ => .named .ftXlt
  | .drvWr _ _ => .drv
  | .tick => .ph 0x00
  | .muxScan => .ph 0x01
  | .debLoad => .ph 0x02
  | .tuneToggle => .ph 0x03
  | .tuneToggleA => .swd 3 0x2D 0x05
  | .tuneToggleB => .swd 3 0x29 0x21
  | .tuneToggleM => .swd 3 0x2C 0x0C
  | .tuneDec => .swd 4 0x81 0x81
  | .tuneInc => .swd 4 0x84 0x84
  | .gateMute => .swd 5 0x36 0x06
  | .filtNext => .swd 6 0x89 0x01
  | .wfDefault => .ph 0x07
  | .gateRestore => .swd 8 0x52 0x42
  | .wfNext => .swd 8 0x52 0x02
  | .wfPot => .ph 0x09
  | .o3Next => .swd 10 0xE4 0x04
  | .o3Cv => .ph 0x0B
  | .ctrlWr => .ph 0x0C
  | .fmodeWr => .ph 0x0D
  | .freqUpd _ => .ph 0x0E
  | .pwUpd => .ph 0x0F
  | .fcUpd => .ph 0x10
  | .resUpd => .ph 0x11
  | .nvPersist => .swdNot 18 0x07 0x00
  | .debRelease => .swd 18 0x07 0x00
  | .ledOut => .ph 0x13
  | .resetLoad => .ph 0x1F
  | .cmdF1lo _ => .cmd 0x1F00 0x0000
  | .cmdF1hi _ => .cmd 0x1F00 0x0100
  | .cmdPwlo _ => .cmd 0x1F00 0x0200
  | .cmdPwhi _ => .cmd 0x1FF0 0x0300
  | .cmdCtrl _ _ _ _ => .cmd 0x1F08 0x0400
  | .cmdSus _ => .cmd 0x1F00 0x0600
  | .cmdF2lo _ => .cmd 0x1F00 0x0700
  | .cmdF2hi _ => .cmd 0x1F00 0x0800
  | .cmdF3lo _ => .cmd 0x1F00 0x0E00
  | .cmdF3hi _ => .cmd 0x1F00 0x0F00
  | .cmdFclo _ => .cmd 0x1FF8 0x1500
  | .cmdFchi _ => .cmd 0x1F00 0x1600
  | .cmdRes _ _ => .cmd 0x1F00 0x1700
  | .cmdMode _ _ => .cmd 0x1F00 0x1800

/-- The code fits the row. -/
def fits (r : Row) (k : Code) : Bool :=
  match r, k with
  | .sel, .call (.sel _) => true
  | .named op, .call (.named op' _) => op == op'
  | .drv, .call (.drv _) => true
  | .cmd mask value, .call (.cmd w) => (w &&& mask) == value
  | .ph value, .seq p _ _ => p == value
  | .swd phase mask value, .seq p _ w => p == phase && (w &&& mask) == value
  | .swdNot phase mask value, .seq p _ w => p == phase && (w &&& mask) != value
  | _, _ => false

/-- The encoder's code of `i` fits the row of `i`. -/
def Statement (i : Instr) : Prop := fits (rowOf i) (encode Config.ref i) = true

theorem muxSel (ch : ChannelId) : Statement (.muxSel ch) := rfl
theorem muxRda : Statement .muxRda := rfl
theorem muxRdd (ch : ChannelId) : Statement (.muxRdd ch) := rfl
theorem debFresh (x : Switch) : Statement (.debFresh x) := by
  cases x <;> rfl
theorem debConsume (m : SwitchBits) : Statement (.debConsume m) := rfl
theorem ftXlt (raw off : BitVec 10) : Statement (.ftXlt raw off) := rfl
theorem drvWr (a : ChipAddr) (d : Byte) : Statement (.drvWr a d) := rfl
theorem tick : Statement .tick := rfl
theorem muxScan : Statement .muxScan := rfl
theorem debLoad : Statement .debLoad := rfl
theorem tuneToggle : Statement .tuneToggle := rfl
theorem tuneToggleA : Statement .tuneToggleA := rfl
theorem tuneToggleB : Statement .tuneToggleB := rfl
theorem tuneToggleM : Statement .tuneToggleM := rfl
theorem tuneDec : Statement .tuneDec := rfl
theorem tuneInc : Statement .tuneInc := rfl
theorem gateMute : Statement .gateMute := rfl
theorem filtNext : Statement .filtNext := rfl
theorem wfDefault : Statement .wfDefault := rfl
theorem gateRestore : Statement .gateRestore := rfl
theorem wfNext : Statement .wfNext := rfl
theorem wfPot : Statement .wfPot := rfl
theorem o3Next : Statement .o3Next := rfl
theorem o3Cv : Statement .o3Cv := rfl
theorem ctrlWr : Statement .ctrlWr := rfl
theorem fmodeWr : Statement .fmodeWr := rfl
theorem freqUpd (k : FreqCh) : Statement (.freqUpd k) := by
  cases k <;> rfl
theorem pwUpd : Statement .pwUpd := rfl
theorem fcUpd : Statement .fcUpd := rfl
theorem resUpd : Statement .resUpd := rfl
theorem nvPersist : Statement .nvPersist := rfl
theorem debRelease : Statement .debRelease := rfl
theorem ledOut : Statement .ledOut := rfl
theorem resetLoad : Statement .resetLoad := rfl
theorem cmdF1lo (v : Byte) : Statement (.cmdF1lo v) := by
  unfold Statement; revert v; decide
theorem cmdF1hi (v : Byte) : Statement (.cmdF1hi v) := by
  unfold Statement; revert v; decide
theorem cmdPwlo (p : Byte) : Statement (.cmdPwlo p) := by
  unfold Statement; revert p; decide
theorem cmdPwhi (p : BitVec 4) : Statement (.cmdPwhi p) := by
  unfold Statement; revert p; decide
theorem cmdCtrl (w : BitVec 4) (r s g : Bool) : Statement (.cmdCtrl w r s g) := by
  unfold Statement; revert w r s g; decide
theorem cmdSus (d : Byte) : Statement (.cmdSus d) := by
  unfold Statement; revert d; decide
theorem cmdF2lo (v : Byte) : Statement (.cmdF2lo v) := by
  unfold Statement; revert v; decide
theorem cmdF2hi (v : Byte) : Statement (.cmdF2hi v) := by
  unfold Statement; revert v; decide
theorem cmdF3lo (v : Byte) : Statement (.cmdF3lo v) := by
  unfold Statement; revert v; decide
theorem cmdF3hi (v : Byte) : Statement (.cmdF3hi v) := by
  unfold Statement; revert v; decide
theorem cmdFclo (b : BitVec 3) : Statement (.cmdFclo b) := by
  unfold Statement; revert b; decide
theorem cmdFchi (b : Byte) : Statement (.cmdFchi b) := by
  unfold Statement; revert b; decide
theorem cmdRes (r l : BitVec 4) : Statement (.cmdRes r l) := by
  unfold Statement; revert r l; decide
theorem cmdMode (m l : BitVec 4) : Statement (.cmdMode m l) := by
  unfold Statement; revert m l; decide

end Sys2Proof.Laws.TableRow
end

