-- ==== Sys2Proof/Tests/Slice0.lean ====
section
/-! SUPPORT. Tests/Slice0.lean: the smoke test of WellFormed, one written-out word for every constructor, one or two
steps for every operation with the results of 95_test_vectors.md and the rules' own examples, and a witness for the
hypotheses of every statement that has some. -/

namespace Sys2Proof.Tests

open Sys2Proof Sys2Proof.Machine

/-! ## WellFormed: each check refuses an ill-formed term -/

theorem test_offset_above_613_refused : (Instr.ftXlt 0 614).wellFormed Config.ref = false := by decide
theorem test_mirror_refused_without_parameter : Instr.tuneToggleM.wellFormed Config.ref = false := by decide
theorem test_two_waveform_bits_refused : (Instr.cmdCtrl 6 false false true).wellFormed Config.ref = false := by decide
theorem test_ring_and_sync_refused : (Instr.cmdCtrl 4 true true true).wellFormed Config.ref = false := by decide
theorem test_other_sustain_refused : (Instr.cmdSus 0x80).wellFormed Config.ref = false := by decide
theorem test_other_resonance_low_refused : (Instr.cmdRes 15 0).wellFormed Config.ref = false := by decide
theorem test_other_mode_nibble_refused : (Instr.cmdMode 8 15).wellFormed Config.ref = false := by decide
theorem test_other_mode_low_refused : (Instr.cmdMode 1 0).wellFormed Config.ref = false := by decide

/-! ## Decoding: words written out bit by bit from R61 to R64 and the table's rows -/

/-- `SEL` `cccc` = 0101 (R61). -/
theorem test_decode_sel : decode Config.ref (.call (.sel 0b0101)) = .ok (.muxSel 5) := rfl

/-- The operations of format none, by name (R80): operands packed as log 12 says. -/
theorem test_decode_named :
    decode Config.ref (.call (.named .muxRda 0b00000000000000000000)) = .ok .muxRda
      ∧ decode Config.ref (.call (.named .muxRdd 0b00000000000000001010)) = .ok (.muxRdd 10)
      ∧ decode Config.ref (.call (.named .debFresh 0b00000000000000000010)) = .ok (.debFresh .ringsync)
      ∧ decode Config.ref (.call (.named .debConsume 0b00000000000000000101)) = .ok (.debConsume 0b101)
      ∧ decode Config.ref (.call (.named .ftXlt 0b10000000000100110010)) = .ok (.ftXlt 512 306) :=
  ⟨rfl, rfl, rfl, rfl, rfl⟩

/-- `PH` words (R64): 00000 to 10011 and 11111, for the phases with one operation. -/
theorem test_decode_ph :
    decodeTableWord 8 0b00000 = some .tick ∧ decodeTableWord 8 0b00001 = some .muxScan
      ∧ decodeTableWord 8 0b00010 = some .debLoad ∧ decodeTableWord 8 0b00011 = some .tuneToggle
      ∧ decodeTableWord 8 0b00111 = some .wfDefault ∧ decodeTableWord 8 0b01001 = some .wfPot
      ∧ decodeTableWord 8 0b01011 = some .o3Cv ∧ decodeTableWord 8 0b01100 = some .ctrlWr
      ∧ decodeTableWord 8 0b01101 = some .fmodeWr ∧ decodeTableWord 8 0b01110 = some (.freqUpd .one)
      ∧ decodeTableWord 8 0b01111 = some .pwUpd ∧ decodeTableWord 8 0b10000 = some .fcUpd
      ∧ decodeTableWord 8 0b10001 = some .resUpd ∧ decodeTableWord 8 0b10011 = some .ledOut
      ∧ decodeTableWord 8 0b11111 = some .resetLoad := by decide

/-- P14 runs `k` = 1, 2, 3 in this order (R64). -/
theorem test_decode_p14_turns :
    decode Config.ref (.seq 0b01110 1 0) = .ok (.freqUpd .two)
      ∧ decode Config.ref (.seq 0b01110 2 0) = .ok (.freqUpd .three) := ⟨rfl, rfl⟩

/-- `SWD` words `t g iR iW iF sR sW sF` (R62) at the phases that test them. -/
theorem test_decode_swd :
    decode Config.ref (.seq 3 0 0b00000101) = .ok .tuneToggleA
      ∧ decode Config.ref (.seq 3 0 0b00100001) = .ok .tuneToggleB
      ∧ decode { Config.ref with skewMirror := true } (.seq 3 0 0b00001100) = .ok .tuneToggleM
      ∧ decode Config.ref (.seq 3 0 0b00001100) = .ok .tuneToggle
      ∧ decode Config.ref (.seq 4 0 0b10000001) = .ok .tuneDec
      ∧ decode Config.ref (.seq 4 1 0b10000100) = .ok .tuneInc
      ∧ decode Config.ref (.seq 5 0 0b00000110) = .ok .gateMute
      ∧ decode Config.ref (.seq 6 0 0b00000001) = .ok .filtNext
      ∧ decode Config.ref (.seq 8 0 0b01000010) = .ok .gateRestore
      ∧ decode Config.ref (.seq 8 0 0b00000010) = .ok .wfNext
      ∧ decode Config.ref (.seq 10 0 0b00000100) = .ok .o3Next
      ∧ decode Config.ref (.seq 18 0 0b00101000) = .ok .debRelease
      ∧ decode Config.ref (.seq 18 0 0b00000001) = .ok .nvPersist :=
  ⟨rfl, rfl, rfl, rfl, rfl, rfl, rfl, rfl, rfl, rfl, rfl, rfl, rfl⟩

/-- `SWD` rows as the table numbers them, where no `PH` row has the number (log 13). -/
theorem test_decode_swd_rows :
    decodeTableWord 8 0b00000101 = some .tuneToggleA ∧ decodeTableWord 8 0b00100001 = some .tuneToggleB
      ∧ decodeTableWord 8 0b10000001 = some .tuneDec ∧ decodeTableWord 8 0b10000100 = some .tuneInc
      ∧ decodeTableWord 8 0b00000110 = some .gateMute ∧ decodeTableWord 8 0b01000010 = some .gateRestore
      ∧ decodeTableWord 8 0b00000100 = some .o3Next := by decide

/-- `CMD` words `aaaaa dddddddd` (R63, `CFG_REF` addresses). -/
theorem test_decode_cmd :
    decode Config.ref (.call (.drv 0b0010001000001)) = .ok (.drvWr 0x04 0x41)
      ∧ decodeTableWord 16 0b0000011100000 = some (.cmdF1lo 0xE0)
      ∧ decodeTableWord 16 0b0000101111111 = some (.cmdF1hi 0x7F)
      ∧ decodeTableWord 16 0b0001010100000 = some (.cmdPwlo 0xA0)
      ∧ decodeTableWord 16 0b0001100001000 = some (.cmdPwhi 8)
      ∧ decodeTableWord 16 0b0010001000011 = some (.cmdCtrl 4 false true true)
      ∧ decodeTableWord 16 0b0011011110000 = some (.cmdSus 0xF0)
      ∧ decodeTableWord 16 0b0011111100000 = some (.cmdF2lo 0xE0)
      ∧ decodeTableWord 16 0b0100000101111 = some (.cmdF2hi 0x2F)
      ∧ decodeTableWord 16 0b0111010111000 = some (.cmdF3lo 0xB8)
      ∧ decodeTableWord 16 0b0111111001111 = some (.cmdF3hi 0xCF)
      ∧ decodeTableWord 16 0b1010100000110 = some (.cmdFclo 6)
      ∧ decodeTableWord 16 0b1011000011001 = some (.cmdFchi 0x19)
      ∧ decodeTableWord 16 0b1011111110111 = some (.cmdRes 15 7)
      ∧ decodeTableWord 16 0b1100000101111 = some (.cmdMode 2 15) := by decide

/-- Reserved codes are refused by name: phase 20 (R64), a set bit 3 of the control byte (R67), a mask of 4 bits. -/
theorem test_decode_reserved :
    decode Config.ref (.seq 20 0 0) = .error (.phaseNeverHeld 20)
      ∧ decode Config.ref (.seq 4 2 0) = .error (.turnNeverHeld 4 2)
      ∧ decode Config.ref (.call (.cmd 0b0010001001001)) = .error (.dataBitReserved 4 0x49)
      ∧ decode Config.ref (.call (.cmd 0b1111100000000)) = .error (.notACommand 31)
      ∧ decode Config.ref (.call (.named .debConsume 8)) = .error (.operandReserved .debConsume) :=
  ⟨rfl, rfl, rfl, rfl, rfl⟩

/-! ## Small states -/

/-- What a next state shows; false for a fault or a refusal. -/
def shows (o : Host.Outcome State Fault Refusal) (f : State → Bool) : Bool :=
  match o with
  | .next t => f t
  | .fault _ => false
  | .refused _ => false

/-- The state after program P1 of 95_test_vectors.md, as far as the rules read it. -/
def p1 : State :=
  { State.reset with
    phase := 0
    synth := { State.reset.synth with waveform := 0x40, filterCutoff := 200, resonance := 15, freq1 := 512, freq3 := 1023 }
    flags := { ctrlDirty := false, ctrlResync := false, filterDirty := false, cachesValid := true, offsetChanged := false }
    x := ⟨0, 0, 0, 0, 200, 512, 0, 1023, 0, 100, 1023⟩
    irq := { pending := false, tickMasked := false, saved := false } }

/-- `p1` with the given switches pressed and ignored. -/
def switches (pressed ignored : SwitchBits) : State := { p1 with switchMask := pressed, ignoreMask := ignored }

/-- `p1` with the converter's answers to come. -/
def samples (l : List Sample) : State :=
  { p1 with inputs := { p1.inputs with adc := l.map AdcAnswer.sample }, mux := { p1.mux with settled := true } }

/-! ## The multiplexer (table M) -/

theorem test_mux_sel : shows (exec (.muxSel 5) p1) (fun t => t.mux == { sel := 5, selCh := 5, settled := true }
    && t.out == [.select 5, .settle 500]) = true := by decide
theorem test_mux_rda : shows (exec .muxRda (samples [512])) (fun t => t.result == 512) = true := by decide
theorem test_mux_rda_unsettled : exec .muxRda p1 = .refused .notSettled := rfl
theorem test_mux_rdd_513 : shows (exec (.muxRdd 3) (samples [513])) (fun t => t.result == 1) = true := by decide
theorem test_mux_rdd_512 : shows (exec (.muxRdd 3) (samples [512])) (fun t => t.result == 0) = true := by decide
theorem test_mux_scan : shows (exec .muxScan (samples [0, 0, 1023, 0, 200, 512, 0, 1023, 0, 100, 1023]))
    (fun t => t.x.toList == [0, 0, 1023, 0, 200, 512, 0, 1023, 0, 100, 1023] && t.mux.selCh == 10 && t.phase == 2
      && t.out.length == 33) = true := by decide

/-! ## The debouncer (table B) -/

theorem test_deb_load : shows (exec .debLoad { p1 with x := { p1.x with sF := 1023, sW := 0, sR := 600 } })
    (fun t => t.switchMask == 0b101) = true := by decide
theorem test_deb_load_threshold : shows (exec .debLoad { p1 with x := { p1.x with sF := 512, sW := 513, sR := 512 } })
    (fun t => t.switchMask == 0b010) = true := by decide
theorem test_deb_fresh : shows (exec (.debFresh .filter) (switches 0b101 0b100)) (fun t => t.result == 1) = true := by
  decide
theorem test_deb_not_fresh : shows (exec (.debFresh .ringsync) (switches 0b101 0b100)) (fun t => t.result == 0)
    = true := by decide
theorem test_deb_consume : shows (exec (.debConsume 0b001) (switches 0 0b100)) (fun t => t.ignoreMask == 0b101)
    = true := by decide
theorem test_deb_release : shows (exec .debRelease (switches 0 0b101)) (fun t => t.ignoreMask == 0 && t.out == [])
    = true := by decide
theorem test_nv_persist : shows (exec .nvPersist { (switches 0b001 0b101) with
      synth := { p1.synth with oscillator3Mode := o3Sync } })
    (fun t => t.ignoreMask == 0b101 && t.out == [.saveByte 0 0x41] && nvReadByte t.mem 0 == 0x41
      && t.irq.tickMasked == false) = true := by decide

/-! ## The translator and the driver (tables X, D) -/

theorem test_ft_xlt : shows (exec (.ftXlt 512 306) p1) (fun t => t.result == 0x7FE0) = true := by decide +kernel
theorem test_ft_xlt_past_the_table : exec (.ftXlt 1023 614) p1 = .fault (.tableRange 1637) := by
  have h : Config.ref.tab[(1637 : Nat)]? = none := List.getElem?_eq_none (by rw [ref_tab_length])
  have hi : tableIndex 1023 614 = 1637 := by decide
  simp only [exec, execFtXlt, tableLookup, hi, show p1.cfg = Config.ref from rfl, h, andThen_fault]
theorem test_drv_wr : shows (exec (.drvWr 0x18 0x1F) p1) (fun t => t.out ==
    [.pin .presentNibble 0x08 false true, .pin .presentLatch 0x18 false true, .pin .assertStrobe 0x18 true true,
     .pin (.holdStrobe 10) 0x18 true true, .pin .deassertStrobe 0x18 false true, .pin .presentData 0x1F false true,
     .pin .assertSelect 0x1F false false, .pin (.holdSelect 10) 0x1F false false, .pin .deassertSelect 0x1F false true])
    = true := by decide
theorem test_drv_wr_effect : shows (exec (.drvWr 0x04 0x41) p1) (fun t => chipRead t.mem 0x04 == some 0x41
    && chipRead t.mem 0x05 == none && t.pins == { bus := 0x41, ale := false, csN := true, latch := 0x04 }) = true := by
  decide

/-- The fourteen commands, with the words of program P1. -/
theorem test_commands :
    shows (exec (.cmdF1lo 0xE0) p1) (fun t => chipRead t.mem 0x00 == some 0xE0)
      && shows (exec (.cmdF1hi 0x7F) p1) (fun t => chipRead t.mem 0x01 == some 0x7F)
      && shows (exec (.cmdPwlo 0xA0) p1) (fun t => chipRead t.mem 0x02 == some 0xA0)
      && shows (exec (.cmdPwhi 8) p1) (fun t => chipRead t.mem 0x03 == some 0x08)
      && shows (exec (.cmdCtrl 4 false true true) p1) (fun t => chipRead t.mem 0x04 == some 0x43)
      && shows (exec (.cmdSus 0xF0) p1) (fun t => chipRead t.mem 0x06 == some 0xF0)
      && shows (exec (.cmdF2lo 0xE0) p1) (fun t => chipRead t.mem 0x07 == some 0xE0)
      && shows (exec (.cmdF2hi 0x2F) p1) (fun t => chipRead t.mem 0x08 == some 0x2F)
      && shows (exec (.cmdF3lo 0xB8) p1) (fun t => chipRead t.mem 0x0E == some 0xB8)
      && shows (exec (.cmdF3hi 0xCF) p1) (fun t => chipRead t.mem 0x0F == some 0xCF)
      && shows (exec (.cmdFclo 6) p1) (fun t => chipRead t.mem 0x15 == some 0x06)
      && shows (exec (.cmdFchi 0x19) p1) (fun t => chipRead t.mem 0x16 == some 0x19)
      && shows (exec (.cmdRes 15 7) p1) (fun t => chipRead t.mem 0x17 == some 0xF7)
      && shows (exec (.cmdMode 2 15) p1) (fun t => chipRead t.mem 0x18 == some 0x2F) = true := by decide

/-! ## The tick and tuning (table T) -/

/-- `p1` with a tick pending. -/
def ready : State := { p1 with irq := { p1.irq with pending := true } }

theorem test_tick_entry : shows (exec .tick ready) (fun t => t.phase == 1 && t.irq.pending == false) = true := by decide
theorem test_tick_idle : shows (exec .tick p1) (fun t => t.phase == 0) = true := by decide
theorem test_toggle_enters : shows (exec .tuneToggle { (switches 0b101 0) with
      synth := { p1.synth with oscillator3Mode := o3Sync } })
    (fun t => t.tuning.mode && t.synth.oscillator3Mode == o3None && t.ignoreMask == 0b101 && t.flags.ctrlDirty
      && !t.flags.ctrlResync && t.phase == 4) = true := by decide
theorem test_toggle_leaves : shows (exec .tuneToggle { (switches 0b101 0) with
      tuning := { p1.tuning with mode := true, offset := 307 } })
    (fun t => !t.tuning.mode && t.out == [.saveWord 2 307] && nvReadWord t.mem 2 == 307 && !t.irq.tickMasked) = true := by
  decide
theorem test_toggle_a : shows (exec .tuneToggleA (switches 0b101 0)) (fun t => t.tuning.mode) = true := by decide
theorem test_toggle_b : shows (exec .tuneToggleB (switches 0b101 0b100)) (fun t => t.tuning.mode) = true := by decide
theorem test_toggle_m_off : shows (exec .tuneToggleM (switches 0b101 0b001)) (fun t => !t.tuning.mode) = true := by decide
theorem test_toggle_m_on : shows (exec .tuneToggleM { (switches 0b101 0b001) with
    cfg := { Config.ref with skewMirror := true } }) (fun t => t.tuning.mode) = true := by decide

/-- Tuning mode with the given offset and switches held. -/
def tuned (off : BitVec 10) (held : SwitchBits) : State :=
  { (switches held 0) with tuning := { offset := off, mode := true, off0 := off } }

theorem test_tune_dec : shows (exec .tuneDec (tuned 306 0b001)) (fun t => t.tuning.offset == 305 && t.tuning.off0 == 306)
    = true := by decide
theorem test_tune_dec_at_0 : shows (exec .tuneDec (tuned 0 0b001)) (fun t => t.tuning.offset == 0) = true := by decide
theorem test_tune_inc : shows (exec .tuneInc (tuned 0 0b101)) (fun t => t.tuning.offset == 1 && t.flags.offsetChanged)
    = true := by decide
theorem test_tune_inc_at_613 : shows (exec .tuneInc (tuned 613 0b100))
    (fun t => t.tuning.offset == 613 && !t.flags.offsetChanged) = true := by decide

/-! ## Gate, filter, waveform, oscillator 3 (tables G, F, W, O) -/

theorem test_gate_mute : shows (exec .gateMute (switches 0b110 0))
    (fun t => t.synth.gateOff && t.ignoreMask == 0b110 && chipRead t.mem 0x06 == some 0x00 && t.flags.ctrlDirty)
    = true := by decide
theorem test_gate_mute_again : shows (exec .gateMute { (switches 0b110 0) with synth := { p1.synth with gateOff := true } })
    (fun t => t.ignoreMask == 0b110 && t.out == [] && !t.flags.ctrlDirty) = true := by decide
theorem test_gate_restore : shows (exec .gateRestore { (switches 0b010 0) with
      synth := { p1.synth with gateOff := true } })
    (fun t => !t.synth.gateOff && chipRead t.mem 0x06 == some 0xF0 && t.flags.ctrlDirty && t.flags.ctrlResync
      && t.synth.waveform == 0x40) = true := by decide
theorem test_filt_next : shows (exec .filtNext (switches 0b001 0))
    (fun t => t.synth.filterType == ftBandPass && t.flags.filterDirty && t.ignoreMask == 0b001) = true := by decide
theorem test_filt_wraps : shows (exec .filtNext { (switches 0b001 0) with synth := { p1.synth with filterType := ftNotch } })
    (fun t => t.synth.filterType == ftLowPass) = true := by decide
theorem test_wf_default : shows (exec .wfDefault { p1 with synth := { p1.synth with waveform := wfNone } })
    (fun t => t.synth.waveform == wfPulse && t.flags.ctrlDirty) = true := by decide
theorem test_wf_next : shows (exec .wfNext (switches 0b010 0)) (fun t => t.synth.waveform == wfNoise) = true := by decide
theorem test_wf_next_wraps : shows (exec .wfNext { (switches 0b010 0) with synth := { p1.synth with waveform := wfNoise } })
    (fun t => t.synth.waveform == wfTriangle) = true := by decide

/-- The waveform a SAWTOOTH becomes under a pot sample. -/
def potGives (v : Sample) (w : Byte) (dirty : Bool) : Bool :=
  shows (exec .wfPot { p1 with x := { p1.x with aWF := v }, synth := { p1.synth with waveform := wfSawtooth } })
    (fun t => t.synth.waveform == w && t.flags.ctrlDirty == dirty)

theorem test_wf_pot_low : potGives 50 wfSawtooth false && potGives 51 wfNoise true && potGives 255 wfNoise true
    && potGives 256 wfTriangle true = true := by decide
theorem test_wf_pot_high : potGives 511 wfTriangle true && potGives 512 wfSawtooth false && potGives 767 wfSawtooth false
    && potGives 768 wfPulse true && potGives 1023 wfPulse true = true := by decide
theorem test_o3_next : shows (exec .o3Next (switches 0b100 0)) (fun t => t.synth.oscillator3Mode == o3Sync
    && t.flags.ctrlDirty && !t.flags.ctrlResync) = true := by decide
theorem test_o3_next_wraps : shows (exec .o3Next { (switches 0b100 0) with
    synth := { p1.synth with oscillator3Mode := o3Ring } }) (fun t => t.synth.oscillator3Mode == o3None
    && t.flags.ctrlResync) = true := by decide

/-- The mode and resync flag a mode `m` gets under a CV sample. -/
def cvGives (m : BitVec 2) (v : Sample) (n : BitVec 2) (resync : Bool) : Bool :=
  shows (exec .o3Cv { p1 with x := { p1.x with aRS := v }, synth := { p1.synth with oscillator3Mode := m } })
    (fun t => t.synth.oscillator3Mode == n && t.flags.ctrlResync == resync)

theorem test_o3_cv : cvGives o3None 100 o3None false && cvGives o3Sync 100 o3None true && cvGives o3Sync 101 o3Sync false
    && cvGives o3Sync 300 o3Sync false && cvGives o3None 301 o3Sync false && cvGives o3None 750 o3Sync false
    && cvGives o3None 751 o3Ring false = true := by decide
theorem test_o3_cv_off_while_tuning : shows (exec .o3Cv { (tuned 306 0) with x := { p1.x with aRS := 800 } })
    (fun t => t.synth.oscillator3Mode == o3None) = true := by decide

/-! ## The writers (tables C, F, U, L) -/

/-- The data bytes of the register writes of a record, oldest first. -/
def dataWritten (os : List Output) : List Byte :=
  os.filterMap fun o => match o with
    | .pin .deassertSelect b _ _ => some b
    | _ => none

/-- A control byte owed for the given waveform and mode, gate on. -/
def owed (w : Byte) (m : BitVec 2) (resync : Bool) : State :=
  { p1 with
    synth := { p1.synth with waveform := w, oscillator3Mode := m }
    flags := { p1.flags with ctrlDirty := true, ctrlResync := resync, filterDirty := true } }

theorem test_ctrl_wr : shows (exec .ctrlWr (owed wfPulse o3Sync false)) (fun t => dataWritten t.out == [0x43])
    && shows (exec .ctrlWr (owed wfSawtooth o3Ring false)) (fun t => dataWritten t.out == [0x15]) = true := by decide
theorem test_ctrl_wr_resync : shows (exec .ctrlWr (owed wfPulse o3None true))
    (fun t => dataWritten t.out == [0x40, 0x41] && chipRead t.mem 0x04 == some 0x41 && !t.flags.ctrlResync) = true := by
  decide
theorem test_fmode_wr : shows (exec .fmodeWr { (owed 0x40 0 false) with synth := { p1.synth with filterType := 1 } })
    (fun t => dataWritten t.out == [0x2F] && !t.flags.filterDirty) = true := by decide
theorem test_freq_upd : shows (exec (.freqUpd .one) { p1 with synth := { p1.synth with freq1 := 511 } })
    (fun t => dataWritten t.out == [0xE0, 0x7F] && t.synth.freq1 == 512 && t.turn == 1) = true := by decide +kernel
theorem test_freq_upd_unchanged : shows (exec (.freqUpd .three) p1) (fun t => t.out == [] && t.phase == 15) = true := by
  decide
theorem test_pw_upd : shows (exec .pwUpd { p1 with x := { p1.x with aPW := 512 } })
    (fun t => dataWritten t.out == [0x00, 0x08] && t.synth.pulseWidth == 2048) = true := by decide
theorem test_pw_upd_floor : shows (exec .pwUpd { p1 with x := { p1.x with aPW := 40 } }) (fun t => t.out == []) = true := by
  decide
theorem test_fc_upd : shows (exec .fcUpd { p1 with x := { p1.x with aFC := 1023 } })
    (fun t => dataWritten t.out == [0x06, 0xFF] && t.synth.filterCutoff == 2046) = true := by decide
theorem test_res_upd : shows (exec .resUpd { p1 with x := { p1.x with aRES := 959 } })
    (fun t => dataWritten t.out == [0xE7] && t.synth.resonance == 14 && t.flags.cachesValid) = true := by decide
theorem test_led_out : shows (exec .ledOut p1) (fun t => t.out == [.shiftOut .msbFirst 0x41, .syncLine false]
    && t.phase == 0) = true := by decide
theorem test_led_ring_gate_off : shows (exec .ledOut { p1 with synth :=
      { p1.synth with filterType := ftHighPass, oscillator3Mode := o3Ring, gateOff := true } })
    (fun t => t.led == { byte := 0x0C, sync := false }) = true := by decide

/-! ## Reset (table E) -/

/-- The machine after reset with the given contents of the store. -/
def stored (b : Byte) (w : BitVec 16) : State := { State.reset with mem := nvWriteWord (nvWriteByte State.reset.mem 0 b) 2 w }

theorem test_reset_load : shows (exec .resetLoad (stored 0x25 700)) (fun t => t.synth.waveform == wfSawtooth
    && t.synth.filterType == ftBandPass && t.synth.oscillator3Mode == o3Sync && t.tuning.offset == 613 && t.phase == 0
    && !t.irq.tickMasked) = true := by decide
theorem test_reset_load_erased : shows (exec .resetLoad (stored 0xFF 5)) (fun t => t.synth.waveform == wfNone
    && t.tuning.offset == 306) && shows (exec .resetLoad (stored 0xF3 0x8000)) (fun t => t.synth.waveform == wfNone
    && t.tuning.offset == 0) = true := by decide

/-! ## Invocations from outside, and outside a tick (R203, R175) -/

theorem test_invocation_refused : step { p1 with inputs := { p1.inputs with events := [.invoke (.named .debConsume 7)] } }
    = .refused .reentry := rfl
theorem test_call_at_p0_refused : step { p1 with request := some (.sel 5) } = .refused .outsideTick := rfl

/-! ## Placing a row's word: the very next step runs it -/

theorem test_place_command : shows (step (State.reset.withFetchWord 16 0x0441)) (fun t => chipRead t.mem 4 == some 0x41
    && t.request == none) = true := by decide
theorem test_place_phase : shows (step (State.reset.withFetchWord 8 0b00111)) (fun t => t.synth.waveform == wfPulse
    && t.phase == 8) = true := by decide

/-! ## Witnesses: for each statement with hypotheses, a state and operands that meet them together -/

/-- `s` with the given events of the environment to come. -/
def withEvents (es : List Event) (s : State) : State := { s with inputs := { s.inputs with events := es } }

/-- `p1` at phase `p` with the given turn. -/
def at' (p : Phase) (turn : BitVec 2) : State := { p1 with phase := p, turn := turn }

theorem exists_of_shows {o : Host.Outcome State Fault Refusal} {f : State → Bool} (h : shows o f = true) :
    ∃ t, o = .next t := by
  cases o with
  | next t => exact ⟨t, rfl⟩
  | fault r => simp [shows] at h
  | refused r => simp [shows] at h

theorem safe_ready : SafeState ready where
  config := ref_wf
  sequencer := by decide
  invocation := by decide
  waveform := by decide
  waveformSet := by decide
  pulseWidth := by decide
  filterCutoff := by decide
  oscillator3 := by decide
  offset := by decide
  resync := by decide
  ctrlClear := by decide
  filterClear := by decide
  caches := by decide
  idleClear := by decide
  pins := by decide
  mask := by decide
  memory := by decide

/-- `safe_ready` with the flags of a machine that has just loaded: its first tick is still to come. -/
def booted : State := { ready with flags := State.reset.flags }

theorem safe_booted : SafeState booted where
  config := ref_wf
  sequencer := by decide
  invocation := by decide
  waveform := by decide
  waveformSet := by decide
  pulseWidth := by decide
  filterCutoff := by decide
  oscillator3 := by decide
  offset := by decide
  resync := by decide
  ctrlClear := by decide
  filterClear := by decide
  caches := by decide
  idleClear := by decide
  pins := by decide
  mask := by decide
  memory := by decide

theorem safe_p12 : SafeState (at' 12 0) where
  config := ref_wf
  sequencer := by decide
  invocation := by decide
  waveform := by decide
  waveformSet := by decide
  pulseWidth := by decide
  filterCutoff := by decide
  oscillator3 := by decide
  offset := by decide
  resync := by decide
  ctrlClear := by decide
  filterClear := by decide
  caches := by decide
  idleClear := by decide
  pins := by decide
  mask := by decide
  memory := by decide

theorem witness_StepRunsTheSelectedOperation :
    (p1.inputs.events = [] ∧ p1.request = none ∧ decode p1.cfg (.seq p1.phase p1.turn (swdWord p1)) = .ok .tick)
      ∧ (State.reset.inputs.events = [] ∧ State.reset.request = none
        ∧ decode State.reset.cfg (.seq State.reset.phase State.reset.turn (swdWord State.reset)) = .ok .resetLoad)
      ∧ (∃ s : State, s.inputs.events = [] ∧ s.request = some (.drv 0x0441) ∧ s.phase ≠ 0#5 ∧ s.phase ≠ 31#5
        ∧ decode s.cfg (.call (.drv 0x0441)) = .ok (.drvWr 4 0x41))
      ∧ (∃ s : State, s.inputs.events = .quiet :: [] ∧ s.request = none
        ∧ decode s.cfg (.seq s.phase s.turn (swdWord s)) = .ok .ledOut)
      ∧ (∃ s : State, s.inputs.events = .tick :: [] ∧ s.request = none
        ∧ decode s.cfg (.seq s.phase s.turn (swdWord s)) = .ok .tick) :=
  ⟨⟨rfl, rfl, rfl⟩, ⟨rfl, rfl, rfl⟩,
    ⟨{ (at' 14 0) with request := some (.drv 0x0441) }, rfl, rfl, by decide, by decide, rfl⟩,
    ⟨withEvents [.quiet] (at' 19 0), rfl, rfl, rfl⟩, ⟨withEvents [.tick] p1, rfl, rfl, rfl⟩⟩

/-- A turn that P4 does not have, at a phase that is held. -/
theorem witness_SequencerCodesAreTotalOnLegalPositions :
    sequencerLegal 4 2 = false ∧ ¬(20 ≤ (4#5).toNat ∧ (4#5).toNat ≤ 30) := by decide

theorem witness_DecodeOfEncodeIsTheOperation :
    Config.ref.wf = true ∧ (Instr.ftXlt 1023 613).wellFormed Config.ref = true
      ∧ (Instr.cmdCtrl 8 true false true).wellFormed Config.ref = true ∧ (Instr.cmdMode 5 15).wellFormed Config.ref = true :=
  ⟨ref_wf, by decide, by decide, by decide⟩

theorem witness_MuxRdaReturnsTheSample :
    ((samples [1023]).mux.settled = true ∧ nextSample (samples [1023]) = some 1023)
      ∧ (∃ s : State, s.mux.settled = true ∧ nextSample s = none) ∧ p1.mux.settled = false :=
  ⟨⟨rfl, rfl⟩, ⟨{ (samples []) with inputs := { p1.inputs with adc := [.never] } }, rfl, rfl⟩, rfl⟩

theorem witness_MuxRddThresholdsTheSample :
    nextSample (samples [512]) = some 512 ∧ nextSample (samples [513]) = some 513
      ∧ (∃ s : State, nextSample s = none) :=
  ⟨rfl, rfl, ⟨{ p1 with inputs := { p1.inputs with adc := [.never] } }, rfl⟩⟩

theorem witness_MuxScanSamplesEveryInputInOrder :
    (.never : AdcAnswer) ∉ (samples [1, 2, 3, 4, 5, 6, 7, 8, 9, 10, 11]).inputs.adc.take 11
      ∧ (∃ s : State, (.never : AdcAnswer) ∈ s.inputs.adc.take 11) :=
  ⟨by decide, { p1 with inputs := { p1.inputs with adc := List.replicate 10 (.sample 0) ++ [.never] } }, by decide⟩

theorem witness_DebFreshAnswersFromTheMasks :
    ∃ n : Nat, n = (match Switch.ringsync with | .filter => 0 | .waveform => 1 | .ringsync => 2) := ⟨2, rfl⟩

theorem witness_FtXltLooksUpTheSum :
    (1023#10).toNat + (613#10).toNat < p1.cfg.tab.length ∧ p1.cfg.tab.length ≤ (1023#10).toNat + (614#10).toNat
      ∧ p1.cfg.wf = true ∧ (613#10).toNat ≤ 613 :=
  ⟨by rw [show p1.cfg.tab.length = 1637 from ref_tab_length]; decide,
    by rw [show p1.cfg.tab.length = 1637 from ref_tab_length]; decide, ref_wf, by decide⟩

theorem witness_TranslationIsStrictlyMonotone :
    Config.ref.wf = true ∧ (0#10).toNat < (1#10).toNat ∧ tableLookup Config.ref 0 0 = .next 16
      ∧ tableLookup Config.ref 1 0 = .next 56 ∧ tableLookup Config.ref 0 1 = .next 56 :=
  ⟨ref_wf, by decide, rfl, rfl, rfl⟩

theorem witness_DrvWrRunsThePinTrace :
    (p1.pins.csN = true ∧ p1.pins.ale = !p1.cfg.aleActive) ∧ (∃ s : State, s.pins.csN = false)
      ∧ (∃ s : State, s.pins.ale = s.cfg.aleActive) :=
  ⟨⟨rfl, rfl⟩, ⟨{ p1 with pins := { p1.pins with csN := false } }, rfl⟩,
    ⟨{ p1 with pins := { p1.pins with ale := true } }, rfl⟩⟩

theorem witness_driver_is_idle : driverIdle p1 = true := rfl

theorem witness_PhaseThreeStepIsTuneToggle :
    (at' 3 0).inputs.events = [] ∧ (at' 3 0).request = none ∧ (at' 3 0).phase = 3#5 ∧ (at' 3 0).turn = 0#2 :=
  ⟨rfl, rfl, rfl, rfl⟩

/-- Both ends of the doubling: NOISE wraps to TRIANGLE, TRIANGLE does not. -/
theorem witness_WfNextDoublesTheWaveform :
    (16#8).toNat = (if 0x80 < 2 * wfNoise.toNat then 0x10 else 2 * wfNoise.toNat)
      ∧ (32#8).toNat = (if 0x80 < 2 * wfTriangle.toNat then 0x10 else 2 * wfTriangle.toNat) := by decide

/-- `p1` with a pot sample at the lower edge of the sawtooth band. -/
def pot512 : State := { p1 with x := { p1.x with aWF := 512 } }

theorem witness_WfPotSetsTheBand :
    (0x20 : Byte) = (if pot512.x.aWF.toNat ≤ 50 then pot512.synth.waveform
      else if pot512.x.aWF.toNat ≤ pot512.cfg.wfTri.toNat ∧ pot512.x.aWF.toNat ≤ pot512.cfg.wfSaw.toNat
          ∧ pot512.x.aWF.toNat ≤ pot512.cfg.wfPulse.toNat then 0x80
      else if pot512.x.aWF.toNat ≤ pot512.cfg.wfSaw.toNat ∧ pot512.x.aWF.toNat ≤ pot512.cfg.wfPulse.toNat then 0x10
      else if pot512.x.aWF.toNat ≤ pot512.cfg.wfPulse.toNat then 0x20
      else 0x40) := by decide

theorem witness_OscillatorThreeSwitchCyclesTheMode :
    (0#2).toNat = (o3Ring.toNat + 1) % 3 ∧ (1#2).toNat = (o3None.toNat + 1) % 3 := by decide

theorem witness_RingSyncCvForcesTheBand :
    (0#2) = (if p1.tuning.mode = true then p1.synth.oscillator3Mode
      else if 751 ≤ p1.x.aRS.toNat then 2#2
      else if 301 ≤ p1.x.aRS.toNat then 1#2
      else if 101 ≤ p1.x.aRS.toNat then p1.synth.oscillator3Mode
      else 0#2) := by decide

theorem witness_AllThreeFreshTogglesAndDoesNotMute :
    swdWord (switches 0b111 0) &&& 0x3F = 0x07 ∧ ∃ t, exec .tuneToggle (switches 0b111 0) = .next t :=
  ⟨by decide, _, rfl⟩

theorem witness_CtrlWrWritesTheControlByte :
    driverIdle p1 = true
      ∧ (0x40 : Byte) = (if p1.synth.oscillator3Mode = 2#2 then 0x10 else p1.synth.waveform)
      ∧ (0x41 : Byte) = (0x40 ||| (if p1.synth.oscillator3Mode = 2#2 then 0x04 else 0x00)
        ||| (if p1.synth.oscillator3Mode = 1#2 then 0x02 else 0x00)
        ||| (if p1.synth.gateOff = true then 0x00 else 0x01)) := by decide

theorem witness_ControlByteIsComposedOfItsFields :
    waveformCode (at' 12 0).synth.waveform = true ∧ (at' 12 0).synth.oscillator3Mode ≠ 3#2 ∧ SafeState (at' 12 0)
      ∧ (at' 12 0).phase = 12#5 := ⟨by decide, by decide, safe_p12, rfl⟩

theorem witness_SettingsByteRoundTrips :
    waveformCode p1.synth.waveform = true ∧ p1.synth.waveform ≠ 0x00 ∧ p1.synth.oscillator3Mode ≠ 3#2 := by decide

/-- For each channel: unchanged, changed within the table (its entry 0 and its last), changed past the table. -/
theorem witness_FreqUpdFollowsItsInput :
    (p1.flags.cachesValid = true ∧ p1.x.aF1 = p1.synth.freq1 ∧ p1.x.aF2 = p1.synth.freq2 ∧ p1.x.aF3 = p1.synth.freq3
        ∧ p1.flags.offsetChanged = false)
      ∧ (∃ s : State, driverIdle s = true ∧ s.flags.cachesValid = false
        ∧ s.cfg.tab[s.x.aF1.toNat + s.tuning.offset.toNat]? = some 16
        ∧ s.cfg.tab[s.x.aF2.toNat + s.tuning.offset.toNat]? = some 16
        ∧ s.cfg.tab[s.x.aF3.toNat + s.tuning.offset.toNat]? = some 16)
      ∧ (∃ s : State, driverIdle s = true ∧ s.flags.cachesValid = false
        ∧ s.cfg.tab.length ≤ s.x.aF1.toNat + s.tuning.offset.toNat
        ∧ s.cfg.tab.length ≤ s.x.aF2.toNat + s.tuning.offset.toNat
        ∧ s.cfg.tab.length ≤ s.x.aF3.toNat + s.tuning.offset.toNat) := by
  refine ⟨by decide,
    ⟨{ booted with x := { p1.x with aF1 := 0, aF2 := 0, aF3 := 0 }, tuning := { p1.tuning with offset := 0 } },
      rfl, rfl, rfl, rfl, rfl⟩,
    ⟨{ booted with x := { p1.x with aF1 := 1023, aF2 := 1023, aF3 := 1023 }, tuning := { p1.tuning with offset := 614 } },
      rfl, rfl, ?_⟩⟩
  show Config.ref.tab.length ≤ _ ∧ Config.ref.tab.length ≤ _ ∧ Config.ref.tab.length ≤ _
  rw [ref_tab_length]; decide

theorem witness_updates_of_the_analog_inputs :
    driverIdle p1 = true ∧ (160#12).toNat = max 160 (min 4095 (4 * p1.x.aPW.toNat))
      ∧ (200#11).toNat = 2 * p1.x.aFC.toNat ∧ (15#4).toNat = p1.x.aRES.toNat / 64 := by decide

theorem witness_LedOutShowsTheState :
    (0x41 : Byte) = (if p1.tuning.mode = true then 0xFF
      else (if p1.synth.gateOff = true then 0x00
          else if p1.synth.oscillator3Mode = 2#2 then 0x10 else p1.synth.waveform)
        ||| (if p1.synth.oscillator3Mode = 2#2 then 0x08 else 0x00)
        ||| (if p1.synth.filterType = 0#2 then 0x01 else if p1.synth.filterType = 1#2 then 0x02
          else if p1.synth.filterType = 2#2 then 0x04 else 0x05))
      ∧ false = (p1.tuning.mode || decide (p1.synth.oscillator3Mode = 1#2)) := by decide

theorem witness_ResetLoadRestoresTheStore :
    (0x25 : Byte) = nvReadByte (stored 0x25 700).mem (stored 0x25 700).cfg.nvSettings
      ∧ (700 : BitVec 16) = nvReadWord (stored 0x25 700).mem (stored 0x25 700).cfg.nvTuning
      ∧ (0x20 : Byte) = (if (0x25 : Byte) ≠ 0xFF ∧ ((0x25 : Byte).toNat / 16 = 1 ∨ (0x25 : Byte).toNat / 16 = 2
        ∨ (0x25 : Byte).toNat / 16 = 4 ∨ (0x25 : Byte).toNat / 16 = 8) then (0x25 : Byte) &&& 0xF0 else 0x00)
      ∧ (1#2) = (if (0x25 : Byte) = 0xFF ∨ (0x25 : Byte).toNat % 4 = 3 then 0#2 else BitVec.ofNat 2 (0x25 : Byte).toNat)
      ∧ (613#10).toNat = (if (0x25 : Byte) = 0xFF then 306 else if 32768 ≤ (700 : BitVec 16).toNat then 0
        else min 613 (700 : BitVec 16).toNat) := by decide

theorem witness_ResetHoldsTheStatedValues : State.reset = State.resetWith Config.ref := rfl

theorem witness_ResetEventForgetsAllButTheStore :
    (withEvents [.reset] (at' 7 0)).inputs.events = .reset :: []
      ∧ (withEvents [.reset] p1).inputs = (withEvents [.reset] (at' 7 0)).inputs ∧ p1.cfg = (at' 7 0).cfg
      ∧ p1.mem.nvBytes = (at' 7 0).mem.nvBytes ∧ p1.mem.nvWords = (at' 7 0).mem.nvWords ∧ p1.out = (at' 7 0).out :=
  ⟨rfl, rfl, rfl, rfl, rfl, rfl⟩

theorem witness_SettingsAndOffsetSurviveSaveAndLoad :
    (waveformCode (switches 1 0).synth.waveform = true ∧ (switches 1 0).synth.waveform ≠ 0x00
        ∧ (switches 1 0).synth.oscillator3Mode ≠ 3#2 ∧ (switches 1 0).switchMask ≠ 0#3
        ∧ ∃ t, exec .nvPersist (switches 1 0) = .next t ∧ ∃ u, exec .resetLoad t = .next u)
      ∧ (∃ s : State, s.tuning.mode = true ∧ s.tuning.offset.toNat ≤ 613 ∧ swdWord s &&& 0x2D = 0x05
        ∧ nvReadByte s.mem s.cfg.nvSettings ≠ 0xFF
        ∧ ∃ t, exec .tuneToggle s = .next t ∧ ∃ u, exec .resetLoad t = .next u) :=
  ⟨⟨by decide, by decide, by decide, by decide, _, rfl, _, rfl⟩,
    { (tuned 613 0b101) with mem := (stored 0x40 0).mem }, by decide, by decide, by decide, by decide, _, rfl, _, rfl⟩

theorem witness_TickEventWaitsWhileATickRuns :
    ∃ s : State, s.inputs.events = .tick :: [] ∧ s.phase ≠ 0#5 ∧ s.phase ≠ 31#5
      ∧ ∃ t, step { s with inputs := { s.inputs with events := .quiet :: [] } } = .next t :=
  ⟨withEvents [.tick] (at' 7 0), rfl, by decide, by decide, exists_of_shows (f := fun _ => true) (by decide)⟩

/-- An invocation from outside at P0 and inside a tick, one left standing at P0 and at P31, a tick taken at P0. -/
theorem witness_NothingOutsideTheTickTouchesTheBlock :
    ((withEvents [.invoke (.sel 5)] p1).inputs.events = .invoke (.sel 5) :: [] ∧ p1.phase = 0#5)
      ∧ (withEvents [.invoke (.sel 5)] (at' 1 0)).inputs.events = .invoke (.sel 5) :: []
      ∧ (∃ s : State, s.inputs.events = [] ∧ s.request = some (.sel 5) ∧ s.phase = 0#5)
      ∧ (∃ s : State, s.inputs.events = [] ∧ s.request = some (.sel 5) ∧ s.phase = 31#5)
      ∧ (ready.inputs.events.head? ≠ some .reset ∧ ready.request = none ∧ ready.phase = 0#5
        ∧ ∃ t, step ready = .next t ∧ t.phase = 1#5) :=
  ⟨⟨rfl, rfl⟩, rfl, ⟨{ p1 with request := some (.sel 5) }, rfl, rfl, rfl⟩,
    ⟨{ (at' 31 0) with request := some (.sel 5) }, rfl, rfl, rfl⟩, by decide, rfl, rfl, _, rfl, rfl⟩

/-- Each consumer with its condition true. -/
theorem witness_ConsumersMarkTheirSwitches :
    ((∃ t, exec .tuneToggle (switches 0b101 0) = .next t) ∧ fresh (switches 0b101 0) .filter = true)
      ∧ (∃ t, exec .gateMute (switches 0b110 0) = .next t) ∧ (∃ t, exec .filtNext (switches 0b001 0) = .next t)
      ∧ (∃ t, exec .gateRestore { (switches 0b010 0) with synth := { p1.synth with gateOff := true } } = .next t)
      ∧ (∃ t, exec .wfNext (switches 0b010 0) = .next t)
      ∧ (∃ t, exec .o3Next (switches 0b100 0) = .next t ∧ ignored t .ringsync = true) :=
  ⟨⟨⟨_, rfl⟩, by decide⟩, ⟨_, rfl⟩, ⟨_, rfl⟩, ⟨_, rfl⟩, ⟨_, rfl⟩, ⟨_, rfl, by decide⟩⟩

theorem witness_TransitionsRaiseTheirFlags :
    (∃ t, exec .tuneToggle (switches 0b101 0) = .next t ∧ t.tuning.mode = true)
      ∧ (0x40 : Byte) = p1.synth.waveform ∧ o3Ring ≠ p1.synth.oscillator3Mode :=
  ⟨⟨_, rfl, by decide⟩, rfl, by decide⟩

theorem witness_OperationsStoreOnlyWhereTheyMay :
    (∃ t, exec (.cmdSus 0xF0) p1 = .next t) ∧ (∃ t, exec .nvPersist (switches 1 0) = .next t)
      ∧ (∃ t, exec .tuneToggle (tuned 306 0b101) = .next t) := ⟨⟨_, rfl⟩, ⟨_, rfl⟩, ⟨_, rfl⟩⟩

/-- At P14, a phase that writes; address 5 is none of the fourteen. -/
theorem witness_BlockWritesOnlyTheFourteenRegisters :
    noCalls (at' 14 1) = true ∧ (at' 14 1).inputs.events.head? ≠ some .reset
      ∧ (∀ r : ChipReg, (5#5) ≠ chipAddrOf (at' 14 1).cfg r) ∧ ∃ t, step (at' 14 1) = .next t :=
  ⟨by decide, by decide, by intro r; cases r <;> decide, exists_of_shows (f := fun _ => true) (by decide)⟩

theorem witness_RegistersChangeOnlyAtTheirPhases :
    (at' 12 0).inputs.events.head? ≠ some .reset ∧ (at' 12 0).phase ≠ 31#5 ∧ (at' 12 0).request = none
      ∧ (at' 12 0).inputs.events.head? ≠ some .tick ∧ ∃ t, step (at' 12 0) = .next t :=
  ⟨by decide, by decide, rfl, by decide, exists_of_shows (f := fun _ => true) (by decide)⟩

theorem witness_IgnoreMaskClearsOnlyWhenAllReleased :
    (at' 18 0).inputs.events.head? ≠ some .reset ∧ (at' 18 0).phase ≠ 31#5 ∧ ∃ t, step (at' 18 0) = .next t :=
  ⟨by decide, by decide, exists_of_shows (f := fun _ => true) (by decide)⟩

theorem witness_ConsumedSwitchIsNotFreshUntilAllReleased :
    ignored (switches 0b100 0b100) .ringsync = true
      ∧ (∀ m < 1, ∀ u : State, Sys2Proof.core.run m (switches 0b100 0b100) = .next u →
        u.inputs.events.head? ≠ some .reset ∧ u.phase ≠ 31#5 ∧ ¬(u.phase = 18#5 ∧ u.switchMask = 0#3))
      ∧ ∃ t, Sys2Proof.core.run 1 (switches 0b100 0b100) = .next t := by
  refine ⟨by decide, ?_, exists_of_shows (f := fun _ => true) (by decide)⟩
  intro m hm u hu
  obtain rfl : m = 0 := by omega
  cases hu
  decide

theorem witness_StepKeepsSafeStates :
    SafeState ready ∧ MasksReleased ready ∧ ∃ t, step ready = .next t :=
  ⟨safe_ready, ⟨by decide, by decide⟩, exists_of_shows (f := fun _ => true) (by decide)⟩

theorem witness_SafeStatesAlwaysStep : SafeState ready ∧ noCalls ready = true ∧ converterAnswers ready = true :=
  ⟨safe_ready, by decide, by decide⟩

theorem witness_TickCompletesInTwentyThreeSteps :
    SafeState ready ∧ noCalls ready = true ∧ noResets ready = true ∧ converterAnswers ready = true
      ∧ ready.phase = 0#5 ∧ ready.irq.pending = true :=
  ⟨safe_ready, by decide, by decide, by decide, rfl, rfl⟩

theorem witness_TickIssuesAtMostFifteenWrites :
    SafeState booted ∧ noCalls booted = true ∧ noResets booted = true ∧ converterAnswers booted = true
      ∧ booted.phase = 0#5 ∧ booted.irq.pending = true ∧ booted.flags.cachesValid = false
      ∧ booted.flags.ctrlDirty = true ∧ booted.flags.filterDirty = true :=
  ⟨safe_booted, by decide, by decide, by decide, rfl, rfl, rfl, rfl, rfl⟩

end Sys2Proof.Tests
end

section
/-! Which operations a step can run: the sequencer's, by phase, and those a running tick invokes by name. -/

namespace Sys2Proof.Machine

/-- The operations the sequencer runs at a phase (R64). -/
inductive SequencerRuns : Phase → Instr → Prop
  | tick : SequencerRuns 0#5 .tick
  | muxScan : SequencerRuns 1#5 .muxScan
  | debLoad : SequencerRuns 2#5 .debLoad
  | toggle (i : Instr) (hi : savesOffset i = true) : SequencerRuns 3#5 i
  | tuneDec : SequencerRuns 4#5 .tuneDec
  | tuneInc : SequencerRuns 4#5 .tuneInc
  | gateMute : SequencerRuns 5#5 .gateMute
  | filtNext : SequencerRuns 6#5 .filtNext
  | wfDefault : SequencerRuns 7#5 .wfDefault
  | gateRestore : SequencerRuns 8#5 .gateRestore
  | wfNext : SequencerRuns 8#5 .wfNext
  | wfPot : SequencerRuns 9#5 .wfPot
  | o3Next : SequencerRuns 10#5 .o3Next
  | o3Cv : SequencerRuns 11#5 .o3Cv
  | ctrlWr : SequencerRuns 12#5 .ctrlWr
  | fmodeWr : SequencerRuns 13#5 .fmodeWr
  | freqUpd (k : FreqCh) : SequencerRuns 14#5 (.freqUpd k)
  | pwUpd : SequencerRuns 15#5 .pwUpd
  | fcUpd : SequencerRuns 16#5 .fcUpd
  | resUpd : SequencerRuns 17#5 .resUpd
  | persist (i : Instr) (hi : savesSettings i = true) : SequencerRuns 18#5 i
  | ledOut : SequencerRuns 19#5 .ledOut
  | resetLoad : SequencerRuns 31#5 .resetLoad

/-- The register write a chip command stands for, under a configuration (R63, R67, R70 to R75). -/
def commandStore (c : Config) (i : Instr) : Option (ChipAddr × Byte) :=
  match i with
  | .drvWr a d => some (a, d)
  | .cmdF1lo v => some (c.addr.f1lo, v)
  | .cmdF1hi v => some (c.addr.f1hi, v)
  | .cmdPwlo p => some (c.addr.pwlo, p)
  | .cmdPwhi p => some (c.addr.pwhi, 0#4 ++ p)
  | .cmdCtrl w r s g => some (c.addr.ctrl, ctrlFields w r s g)
  | .cmdSus d => some (c.addr.sus, d)
  | .cmdF2lo v => some (c.addr.f2lo, v)
  | .cmdF2hi v => some (c.addr.f2hi, v)
  | .cmdF3lo v => some (c.addr.f3lo, v)
  | .cmdF3hi v => some (c.addr.f3hi, v)
  | .cmdFclo b => some (c.addr.fclo, 0#5 ++ b)
  | .cmdFchi b => some (c.addr.fchi, b)
  | .cmdRes r l => some (c.addr.res, r ++ l)
  | .cmdMode m l => some (c.addr.mode, m ++ l)
  | _ => none

/-- `commandStore` says what the commands and `DRV.WR` do. -/
theorem exec_command {i : Instr} {s : State} {a : ChipAddr} {d : Byte} (h : commandStore s.cfg i = some (a, d)) :
    exec i s = storeCall a d s := by
  cases i <;> cases h <;> rfl

/-- The operations that run only when a tick invokes them by name (R80, log 11). `DRV.WR` and the
fourteen chip commands are one family: a register write. -/
inductive NamedRuns (c : Config) : Instr → Prop
  | muxSel (ch : ChannelId) : NamedRuns c (.muxSel ch)
  | muxRda : NamedRuns c .muxRda
  | muxRdd (ch : ChannelId) : NamedRuns c (.muxRdd ch)
  | debFresh (x : Switch) : NamedRuns c (.debFresh x)
  | debConsume (m : SwitchBits) : NamedRuns c (.debConsume m)
  | ftXlt (raw off : BitVec 10) : NamedRuns c (.ftXlt raw off)
  | store (i : Instr) (hi : (commandStore c i).isSome = true) : NamedRuns c i

theorem onlyTurn_eq_ok {p : Phase} {turn : BitVec 2} {i j : Instr} (h : onlyTurn p turn i = .ok j) : j = i := by
  unfold onlyTurn at h
  split at h <;> cases h
  rfl

theorem tuneStep_eq_ok {p : Phase} {turn : BitVec 2} {i : Instr} (h : tuneStep p turn = .ok i) :
    i = .tuneDec ∨ i = .tuneInc := by
  unfold tuneStep at h
  split at h <;> cases h
  · exact .inl rfl
  · exact .inr rfl

theorem freqStep_eq_ok {p : Phase} {turn : BitVec 2} {i : Instr} (h : freqStep p turn = .ok i) :
    ∃ k, i = .freqUpd k := by
  unfold freqStep at h
  split at h <;> cases h
  all_goals exact ⟨_, rfl⟩

theorem savesOffset_toggleVariant (c : Config) (w : BitVec 8) : savesOffset (toggleVariant c w) = true := by
  unfold toggleVariant
  repeat' split
  all_goals rfl

theorem savesSettings_releaseOrPersist (w : BitVec 8) : savesSettings (releaseOrPersist w) = true := by
  unfold releaseOrPersist
  split <;> rfl

theorem decodeSeq_runs {c : Config} {p : Phase} {turn : BitVec 2} {w : BitVec 8} {i : Instr}
    (h : decodeSeq c p turn w = .ok i) : SequencerRuns p i := by
  unfold decodeSeq at h
  split at h
  case h_4 => exact onlyTurn_eq_ok h ▸ .toggle _ (savesOffset_toggleVariant c w)
  case h_5 => obtain rfl | rfl := tuneStep_eq_ok h <;> constructor
  case h_9 =>
    obtain rfl := onlyTurn_eq_ok h
    unfold restoreOrNext
    split <;> constructor
  case h_15 => obtain ⟨k, rfl⟩ := freqStep_eq_ok h; exact .freqUpd k
  case h_19 => exact onlyTurn_eq_ok h ▸ .persist _ (savesSettings_releaseOrPersist w)
  case h_22 => cases h
  all_goals
    obtain rfl := onlyTurn_eq_ok h
    constructor

theorem decodesTo_ite {P : Instr → Prop} {p : Prop} [Decidable p] {o e : Except DecodeError Instr}
    (ho : ∀ i, o = .ok i → P i) (he : ∀ i, e = .ok i → P i) : ∀ i, (if p then o else e) = .ok i → P i := by
  split <;> assumption

/-- Every command the decoder accepts is one register write (R63). -/
theorem decodeCmd_stores (c : Config) (a : ChipAddr) (d : Byte) :
    ∀ i, decodeCmd c a d = .ok i → (commandStore c i).isSome = true := by
  unfold decodeCmd
  repeat' apply decodesTo_ite
  all_goals
    rintro _ ⟨⟩
    try rfl

theorem operandsWithin_eq_ok {op : OpName} {n : Nat} {v : BitVec 20} {i j : Instr}
    (h : operandsWithin op n v i = .ok j) : j = i := by
  unfold operandsWithin at h
  split at h <;> cases h
  rfl

theorem decodeFresh_eq_ok {v : BitVec 20} {i : Instr} (h : decodeFresh v = .ok i) : ∃ x, i = .debFresh x := by
  unfold decodeFresh at h
  repeat' split at h
  all_goals cases h
  all_goals exact ⟨_, rfl⟩

theorem decodeNamed_runs {c : Config} {op : OpName} {v : BitVec 20} {i : Instr} (h : decodeNamed op v = .ok i) :
    NamedRuns c i := by
  cases op with
  | muxRda => exact operandsWithin_eq_ok h ▸ .muxRda
  | muxRdd => exact operandsWithin_eq_ok h ▸ .muxRdd _
  | debFresh => obtain ⟨x, rfl⟩ := decodeFresh_eq_ok h; exact .debFresh x
  | debConsume => exact operandsWithin_eq_ok h ▸ .debConsume _
  | ftXlt => cases h; exact .ftXlt _ _

theorem decodeCall_runs {c : Config} {k : Call} {i : Instr} (h : decodeCall c k = .ok i) : NamedRuns c i := by
  cases k with
  | sel ch => cases h; exact .muxSel ch
  | drv w => cases h; exact .store _ rfl
  | cmd w => exact .store i (decodeCmd_stores c _ _ i h)
  | named op v => exact decodeNamed_runs h

/-- What a step runs: the phase's operation if nothing stands invoked, else the invoked one, inside a tick only. -/
def StepRuns (u : State) (i : Instr) : Prop :=
  u.request = none ∧ SequencerRuns u.phase i
    ∨ u.request ≠ none ∧ insideTick u.phase = true ∧ NamedRuns u.cfg i

theorem step_runs {s t : State} (h : step s = .next t) :
    ∃ u i, arrive s = .next u ∧ exec i u = .next t ∧ StepRuns u i := by
  obtain ⟨u, k, i, harr, hfetch, hdec, hexec⟩ := (step_eq_next s t).1 h
  refine ⟨u, i, harr, hexec, ?_⟩
  cases hreq : u.request with
  | none =>
    rw [fetchCode_sequencer u hreq] at hfetch
    cases hfetch
    exact .inl ⟨hreq, decodeSeq_runs hdec⟩
  | some c =>
    by_cases hin : insideTick u.phase = true
    · rw [fetchCode_call u c hreq hin] at hfetch
      cases hfetch
      exact .inr ⟨by simp [hreq], hin, decodeCall_runs hdec⟩
    · rw [fetchCode_outside u c hreq (by simpa using hin)] at hfetch
      cases hfetch

/-- Without a reset event, what arrives touches the script of events and `pending` only. -/
theorem arrive_without_reset {s u : State} (h : arrive s = .next u) (hr : s.inputs.events.head? ≠ some .reset) :
    ∃ es b, u = { s with inputs := { s.inputs with events := es }, irq := { s.irq with pending := b } }
      ∧ (s.inputs.events.head? ≠ some .tick → b = s.irq.pending) := by
  obtain ⟨-, rfl⟩ | ⟨es, -, rfl⟩ | ⟨es, htick, rfl⟩ | ⟨es, hreset, -⟩ := (arrive_eq_next s u).1 h
  · exact ⟨_, _, rfl, fun _ => rfl⟩
  · exact ⟨es, _, rfl, fun _ => rfl⟩
  · exact ⟨es, true, rfl, fun hne => absurd (by rw [htick]; rfl) hne⟩
  · exact absurd (by rw [hreset]; rfl) hr

end Sys2Proof.Machine
end

section
/-! What each operation can write: if it completes, the next state is the old one with these fields replaced, and the
replaced values keep what the statements about safe states ask of them. -/

namespace Sys2Proof.Machine

variable {s t : State}

/-! ## Values -/

theorem clamp_bounds {lo hi : Int} (h : lo ≤ hi) (v : Int) : lo ≤ clamp lo hi v ∧ clamp lo hi v ≤ hi := by
  unfold clamp
  split_ifs <;> omega

theorem offsetMoved_le (off : BitVec 10) (d : Int) : (offsetMoved off d).toNat ≤ 613 := by
  have h := clamp_bounds (lo := offMin) (hi := offMax) (by decide) (off.toNat + d)
  simp only [offsetMoved, BitVec.toNat_ofNat, offMin, offMax] at *
  omega

theorem loadOffset_le (b : Byte) (w : BitVec 16) : (loadOffset b w).toNat ≤ 613 := by
  unfold loadOffset
  split
  · decide
  · have h := clamp_bounds (lo := offMin) (hi := offMax) (by decide) w.toInt
    simp only [offsetLoaded, BitVec.toNat_ofNat, offMin, offMax] at *
    omega

theorem pulseWidthOf_bounds (v : Sample) : 160 ≤ (pulseWidthOf v).toNat ∧ (pulseWidthOf v).toNat ≤ 4095 := by
  have h := clamp_bounds (lo := pwMin) (hi := pwMax) (by decide) ((v.setWidth 12 <<< pwShift).toNat : Nat)
  simp only [pulseWidthOf, BitVec.toNat_ofNat, pwMin, pwMax] at *
  omega

theorem cutoffOf_le (v : Sample) : (cutoffOf v).toNat ≤ 2046 := by
  have h := v.isLt
  simp only [cutoffOf, BitVec.toNat_ofNat, BitVec.toNat_setWidth]
  omega

theorem or_keeps (a m : SwitchBits) : (a ||| m) &&& a = a := by revert a m; decide

theorem nextO3_ne (m : BitVec 2) : nextO3 m ≠ 3#2 := by revert m; decide

theorem cvBand_ne {v : Sample} {m : BitVec 2} (h : cvBand v = some m) : m ≠ 3#2 := by
  unfold cvBand at h
  split_ifs at h <;> cases h <;> decide

/-- From a waveform other than NONE the next one is a code again, and not NONE (R138). -/
theorem nextWaveform_code {w : Byte} (hw : waveformCode w = true) (hn : w ≠ wfNone) :
    waveformCode (nextWaveform w) = true ∧ nextWaveform w ≠ wfNone := by
  revert w; decide

theorem potBand_code (c : Config) (v : Sample) : waveformCode (potBand c v) = true ∧ potBand c v ≠ wfNone := by
  unfold potBand
  split_ifs <;> decide

theorem unpackWaveform_code (b : Byte) : waveformCode (unpackWaveform b) = true := by
  revert b; decide

theorem unpackO3_ne (b : Byte) : unpackO3 b ≠ 3#2 := by
  unfold unpackO3
  split_ifs with h
  · decide
  · exact h

theorem loadSettings_writes (b : Byte) (y : Synth) :
    ∃ w f m, loadSettings b y = { y with waveform := w, filterType := f, oscillator3Mode := m }
      ∧ waveformCode w = true ∧ m ≠ 3#2 := by
  unfold loadSettings
  split
  · exact ⟨_, _, _, rfl, by decide, by decide⟩
  · exact ⟨_, _, _, rfl, unpackWaveform_code b, unpackO3_ne b⟩

/-! ## Shared operations -/

theorem readAnalog_writes {v : Sample} (h : readAnalog s = .next (t, v)) :
    ∃ adc n o, t = { s with inputs := { s.inputs with adc := adc, taken := n }, out := o } := by
  obtain ⟨rest, w, hnext, -⟩ | ⟨hfault, -⟩ | ⟨hrefused, -⟩ := readAnalog_cases s
  · rw [hnext] at h
    cases h
    exact ⟨_, _, _, rfl⟩
  · rw [hfault] at h
    cases h
  · rw [hrefused] at h
    cases h

/-- Sampling writes the sample registers, the multiplexer, and the environment's side (R93). -/
theorem scanInputs_writes {is : List Input} (h : scanInputs is s = .next t) :
    ∃ x mx adc n o, t = { s with x := x, mux := mx, inputs := { s.inputs with adc := adc, taken := n }, out := o } := by
  induction is generalizing s with
  | nil => cases h; exact ⟨_, _, _, _, _, rfl⟩
  | cons i rest ih =>
    rw [scanInputs, andThen_eq_next, selectChannel_eq] at h
    obtain ⟨⟨u, v⟩, hread, hrest⟩ := h
    obtain ⟨_, _, _, rfl⟩ := readAnalog_writes hread
    obtain ⟨_, _, _, _, _, rfl⟩ := ih hrest
    exact ⟨_, _, _, _, _, rfl⟩

/-- Pins with no register write in progress, as a predicate on the pins alone (R120). -/
def pinsIdle (c : Config) (p : Pins) : Bool := p.csN && (p.ale == !c.aleActive)

theorem driverIdle_eq (s : State) : driverIdle s = pinsIdle s.cfg s.pins := rfl

theorem chipStore_writes {a : ChipAddr} {d : Byte} (h : chipStore a d s = .next t) :
    ∃ pn m o, t = { s with pins := pn, mem := m, out := o }
      ∧ pinsIdle s.cfg pn = true ∧ (memoryWf s.mem = true → memoryWf m = true) := by
  obtain ⟨-, rfl⟩ := (chipStore_eq_next a d s t).1 h
  exact ⟨_, _, _, rfl, by simp [pinsIdle], chipWrite_wf s.mem a d⟩

theorem chipStore2_writes {a b : ChipAddr} {d e : Byte} (h : chipStore2 a d b e s = .next t) :
    ∃ pn m o, t = { s with pins := pn, mem := m, out := o }
      ∧ pinsIdle s.cfg pn = true ∧ (memoryWf s.mem = true → memoryWf m = true) := by
  obtain ⟨u, hfirst, hsecond⟩ := (andThen_eq_next _ _ _).1 h
  obtain ⟨_, _, _, rfl, -, hm⟩ := chipStore_writes hfirst
  obtain ⟨_, _, _, rfl, hidle, hm'⟩ := chipStore_writes hsecond
  exact ⟨_, _, _, rfl, hidle, fun h => hm' (hm h)⟩

/-- Setting the waveform can only raise `ctrlDirty` (R142). -/
theorem setWaveform_writes (v : Byte) (s : State) :
    ∃ d, setWaveform v s = { s with synth := { s.synth with waveform := v }, flags := { s.flags with ctrlDirty := d } }
      ∧ (s.flags.ctrlDirty = true → d = true) := by
  by_cases h : v = s.synth.waveform
  · exact ⟨_, by rw [h, setWaveform_same], id⟩
  · exact ⟨_, setWaveform_new v s h, fun _ => rfl⟩

/-- Setting the oscillator-3 mode keeps that a flagged resync comes with an owed control byte (R142, R25). -/
theorem setO3_writes (m : BitVec 2) (s : State) :
    ∃ d r, setO3 m s =
        { s with
          synth := { s.synth with oscillator3Mode := m }, flags := { s.flags with ctrlDirty := d, ctrlResync := r } }
      ∧ ((s.flags.ctrlResync = true → s.flags.ctrlDirty = true) → r = true → d = true) := by
  by_cases h : m = s.synth.oscillator3Mode
  · exact ⟨_, _, by rw [h, setO3_same], id⟩
  · exact ⟨_, _, setO3_new m s h, fun _ _ => rfl⟩

/-! ## Operations invoked by name -/

/-- An operation invoked by name writes the multiplexer, the pins, memory, `IgnoreMask` (only setting bits) and what it
hands over; its invocation no longer stands (R80, log 11). -/
theorem named_writes {i : Instr} (hi : NamedRuns s.cfg i) (h : exec i s = .next t) :
    ∃ mx pn m adc n ig r o, t =
        { s with
          mux := mx, pins := pn, mem := m, inputs := { s.inputs with adc := adc, taken := n }
          ignoreMask := ig, result := r, out := o, request := none }
      ∧ ig &&& s.ignoreMask = s.ignoreMask
      ∧ (driverIdle s = true → pinsIdle s.cfg pn = true) ∧ (memoryWf s.mem = true → memoryWf m = true) := by
  cases hi with
  | muxSel ch => cases h; exact ⟨_, _, _, _, _, _, _, _, rfl, BitVec.and_self, id, id⟩
  | muxRda =>
    obtain ⟨⟨u, v⟩, hread, hend⟩ := (andThen_eq_next _ _ _).1 h
    obtain ⟨_, _, _, rfl⟩ := readAnalog_writes hread
    cases hend
    exact ⟨_, _, _, _, _, _, _, _, rfl, BitVec.and_self, id, id⟩
  | muxRdd ch =>
    rw [exec, execMuxRdd, andThen_eq_next, selectChannel_eq] at h
    obtain ⟨⟨u, v⟩, hread, hend⟩ := h
    obtain ⟨_, _, _, rfl⟩ := readAnalog_writes hread
    cases hend
    exact ⟨_, _, _, _, _, _, _, _, rfl, BitVec.and_self, id, id⟩
  | debFresh x => cases h; exact ⟨_, _, _, _, _, _, _, _, rfl, BitVec.and_self, id, id⟩
  | debConsume m => cases h; exact ⟨_, _, _, _, _, _, _, _, rfl, or_keeps _ m, id, id⟩
  | ftXlt raw off =>
    obtain ⟨v, -, hend⟩ := (andThen_eq_next _ _ _).1 h
    cases hend
    exact ⟨_, _, _, _, _, _, _, _, rfl, BitVec.and_self, id, id⟩
  | store i hi =>
    obtain ⟨⟨a, d⟩, had⟩ := Option.isSome_iff_exists.1 hi
    rw [exec_command had] at h
    obtain ⟨u, hstore, hend⟩ := (andThen_eq_next _ _ _).1 h
    obtain ⟨_, _, _, rfl, hidle, hm⟩ := chipStore_writes hstore
    cases hend
    exact ⟨_, _, _, _, _, _, _, _, rfl, BitVec.and_self, fun _ => hidle, hm⟩

/-! ## The tick and P1 to P4 -/

theorem tick_writes (h : exec .tick s = .next t) :
    t = { s with irq := { s.irq with pending := false }, phase := 1, turn := 0 } ∨ t = s := by
  by_cases hr : tickReady s = true
  · exact .inl (by simpa [exec, execTick, hr, tickEntry_eq] using h.symm)
  · exact .inr (by simpa [exec, execTick, hr] using h.symm)

theorem muxScan_writes (h : exec .muxScan s = .next t) :
    ∃ x mx adc n o, t =
      { s with
        x := x, mux := mx, inputs := { s.inputs with adc := adc, taken := n }, out := o, phase := 2, turn := 0 } := by
  obtain ⟨u, hscan, hgoto⟩ := (andThen_eq_next _ _ _).1 h
  obtain ⟨_, _, _, _, _, rfl⟩ := scanInputs_writes hscan
  cases hgoto
  exact ⟨_, _, _, _, _, rfl⟩

theorem debLoad_writes (h : exec .debLoad s = .next t) :
    ∃ m, t = { s with switchMask := m, phase := 3, turn := 0 } := by
  cases h
  exact ⟨_, rfl⟩

/-- All four rows of P3 are `TUNE.TOGGLE`'s text under a condition (R131). -/
theorem exec_toggle {i : Instr} (hi : savesOffset i = true) (s : State) : ∃ b, exec i s = toggleIf b s := by
  cases i <;> cases hi <;> exact ⟨_, rfl⟩

theorem enterTuning_writes (s : State) :
    ∃ m d, enterTuning s =
      { s with
        synth := { s.synth with oscillator3Mode := m }
        flags := { s.flags with ctrlDirty := d } }
      ∧ (s.flags.ctrlDirty = true → d = true) ∧ (s.synth.oscillator3Mode ≠ 3#2 → m ≠ 3#2) := by
  unfold enterTuning
  split
  · exact ⟨_, _, rfl, fun _ => rfl, fun _ => by decide⟩
  · exact ⟨_, _, rfl, id, id⟩

theorem toggleTuning_writes (s : State) :
    ∃ ig b m d v mem o, toggleTuning s =
      { s with
        ignoreMask := ig
        tuning := { s.tuning with mode := b }
        synth := { s.synth with oscillator3Mode := m }
        flags := { s.flags with ctrlDirty := d }
        irq := { s.irq with saved := v }, mem := mem, out := o }
      ∧ ig &&& s.ignoreMask = s.ignoreMask ∧ (s.flags.ctrlDirty = true → d = true)
      ∧ (s.synth.oscillator3Mode ≠ 3#2 → m ≠ 3#2) ∧ (memoryWf s.mem = true → memoryWf mem = true) := by
  unfold toggleTuning
  dsimp only
  split
  · obtain ⟨m, d, henter, hd, hm⟩ := enterTuning_writes
      ((s |> consume (switchBit .filter ||| switchBit .ringsync)) |> setTuning { s.tuning with mode := !s.tuning.mode })
    exact ⟨_, _, m, d, _, _, _, henter, or_keeps _ _, hd, hm, id⟩
  · rw [leaveTuning, saveWordMasked_eq]
    exact ⟨_, _, _, _, _, _, _, rfl, or_keeps _ _, id, id, nvWriteWord_wf s.mem _ _⟩

theorem toggle_writes {i : Instr} (hi : savesOffset i = true) (h : exec i s = .next t) :
    ∃ ig b m d v mem o, t =
      { s with
        ignoreMask := ig
        tuning := { s.tuning with mode := b }
        synth := { s.synth with oscillator3Mode := m }
        flags := { s.flags with ctrlDirty := d }
        irq := { s.irq with saved := v }, mem := mem, out := o, phase := 4, turn := 0 }
      ∧ ig &&& s.ignoreMask = s.ignoreMask ∧ (s.flags.ctrlDirty = true → d = true)
      ∧ (s.synth.oscillator3Mode ≠ 3#2 → m ≠ 3#2) ∧ (memoryWf s.mem = true → memoryWf mem = true) := by
  obtain ⟨cond, hcond⟩ := exec_toggle hi s
  rw [hcond] at h
  cases cond with
  | true =>
    obtain ⟨_, _, _, _, _, _, _, htoggle, hrest⟩ := toggleTuning_writes s
    simp only [toggleIf, htoggle, if_true] at h
    cases h
    exact ⟨_, _, _, _, _, _, _, rfl, hrest⟩
  | false =>
    cases h
    exact ⟨_, _, _, _, _, _, _, rfl, BitVec.and_self, id, id, id⟩

theorem tuneDec_writes (h : exec .tuneDec s = .next t) :
    ∃ off off0, t = { s with tuning := { s.tuning with offset := off, off0 := off0 }, turn := 1 }
      ∧ (s.tuning.offset.toNat ≤ 613 → off.toNat ≤ 613) := by
  cases h
  refine ⟨_, _, rfl, fun ho => ?_⟩
  split
  · exact offsetMoved_le _ _
  · exact ho

theorem tuneInc_writes (h : exec .tuneInc s = .next t) :
    ∃ off d, t =
        { s with
          tuning := { s.tuning with offset := off }, flags := { s.flags with offsetChanged := d }
          phase := 5, turn := 0 }
      ∧ (s.tuning.offset.toNat ≤ 613 → off.toNat ≤ 613) := by
  cases h
  refine ⟨_, _, rfl, fun ho => ?_⟩
  split
  · exact offsetMoved_le _ _
  · exact ho

/-! ## P5 to P11 -/

/-- Muting leaves a control byte owed (R134). -/
theorem gateMute_writes (h : exec .gateMute s = .next t) :
    ∃ ig g d pn m o, t =
        { s with
          ignoreMask := ig, synth := { s.synth with gateOff := g }
          flags := { s.flags with ctrlDirty := d }
          pins := pn, mem := m, out := o, phase := 6, turn := 0 }
      ∧ ig &&& s.ignoreMask = s.ignoreMask ∧ (s.flags.ctrlDirty = true → d = true)
      ∧ (driverIdle s = true → pinsIdle s.cfg pn = true) ∧ (memoryWf s.mem = true → memoryWf m = true) := by
  obtain ⟨u, hbody, hgoto⟩ := (andThen_eq_next _ _ _).1 h
  cases hgoto
  split at hbody
  · unfold muteGate at hbody
    split at hbody
    · cases hbody
      exact ⟨_, _, _, _, _, _, rfl, or_keeps _ _, id, id, id⟩
    · obtain ⟨v, hstore, hraise⟩ := (andThen_eq_next _ _ _).1 hbody
      obtain ⟨_, _, _, rfl, hidle, hm⟩ := chipStore_writes hstore
      cases hraise
      exact ⟨_, _, _, _, _, _, rfl, or_keeps _ _, fun _ => rfl, fun _ => hidle, hm⟩
  · cases hbody
    exact ⟨_, _, _, _, _, _, rfl, BitVec.and_self, id, id, id⟩

theorem filtNext_writes (h : exec .filtNext s = .next t) :
    ∃ ig f d, t =
      { s with
        ignoreMask := ig, synth := { s.synth with filterType := f }
        flags := { s.flags with filterDirty := d }, phase := 7, turn := 0 }
      ∧ ig &&& s.ignoreMask = s.ignoreMask := by
  cases h
  split
  · exact ⟨_, _, _, rfl, or_keeps _ _⟩
  · exact ⟨_, _, _, rfl, BitVec.and_self⟩

/-- After P7 the waveform is not NONE (R136). -/
theorem wfDefault_writes (h : exec .wfDefault s = .next t) :
    ∃ w d, t =
        { s with
          synth := { s.synth with waveform := w }
          flags := { s.flags with ctrlDirty := d }, phase := 8, turn := 0 }
      ∧ (s.flags.ctrlDirty = true → d = true)
      ∧ (waveformCode s.synth.waveform = true → waveformCode w = true) ∧ w ≠ wfNone := by
  cases h
  split
  · obtain ⟨d, hset, hd⟩ := setWaveform_writes wfPulse s
    exact ⟨_, d, by rw [hset]; rfl, hd, fun _ => by decide, by decide⟩
  · next hn => exact ⟨_, _, rfl, id, id, hn⟩

theorem gateRestore_writes (h : exec .gateRestore s = .next t) :
    ∃ ig g d r pn m o, t =
        { s with
          ignoreMask := ig, synth := { s.synth with gateOff := g }
          flags := { s.flags with ctrlDirty := d, ctrlResync := r }
          pins := pn, mem := m, out := o, phase := 9, turn := 0 }
      ∧ ig &&& s.ignoreMask = s.ignoreMask
      ∧ ((s.flags.ctrlResync = true → s.flags.ctrlDirty = true) → r = true → d = true)
      ∧ (driverIdle s = true → pinsIdle s.cfg pn = true)
      ∧ (memoryWf s.mem = true → memoryWf m = true) := by
  obtain ⟨u, hbody, hgoto⟩ := (andThen_eq_next _ _ _).1 h
  cases hgoto
  split at hbody
  · obtain ⟨v, hstore, hraise⟩ := (andThen_eq_next _ _ _).1 hbody
    obtain ⟨_, _, _, rfl, hidle, hm⟩ := chipStore_writes hstore
    cases hraise
    exact ⟨_, _, _, _, _, _, _, rfl, or_keeps _ _, fun _ _ => rfl, fun _ => hidle, hm⟩
  · cases hbody
    exact ⟨_, _, _, _, _, _, _, rfl, BitVec.and_self, id, id, id⟩

theorem wfNext_writes (h : exec .wfNext s = .next t) :
    ∃ ig w d, t =
        { s with
          ignoreMask := ig, synth := { s.synth with waveform := w }
          flags := { s.flags with ctrlDirty := d }, phase := 9, turn := 0 }
      ∧ ig &&& s.ignoreMask = s.ignoreMask ∧ (s.flags.ctrlDirty = true → d = true)
      ∧ (waveformCode s.synth.waveform = true → s.synth.waveform ≠ wfNone → waveformCode w = true ∧ w ≠ wfNone) := by
  cases h
  split
  · obtain ⟨d, hset, hd⟩ := setWaveform_writes (nextWaveform s.synth.waveform) (consume (switchBit .waveform) s)
    exact ⟨_, _, d, by rw [hset]; rfl, or_keeps _ _, hd, nextWaveform_code⟩
  · exact ⟨_, _, _, rfl, BitVec.and_self, id, And.intro⟩

theorem wfPot_writes (h : exec .wfPot s = .next t) :
    ∃ w d, t =
        { s with
          synth := { s.synth with waveform := w }
          flags := { s.flags with ctrlDirty := d }, phase := 10, turn := 0 }
      ∧ (s.flags.ctrlDirty = true → d = true)
      ∧ (waveformCode s.synth.waveform = true → s.synth.waveform ≠ wfNone → waveformCode w = true ∧ w ≠ wfNone) := by
  cases h
  split
  · obtain ⟨d, hset, hd⟩ := setWaveform_writes (potBand s.cfg s.x.aWF) s
    exact ⟨_, d, by rw [hset]; rfl, hd, fun _ _ => potBand_code _ _⟩
  · exact ⟨_, _, rfl, id, And.intro⟩

theorem o3Next_writes (h : exec .o3Next s = .next t) :
    ∃ ig m d r, t =
        { s with
          ignoreMask := ig, synth := { s.synth with oscillator3Mode := m }
          flags := { s.flags with ctrlDirty := d, ctrlResync := r }
          phase := 11, turn := 0 }
      ∧ ig &&& s.ignoreMask = s.ignoreMask
      ∧ ((s.flags.ctrlResync = true → s.flags.ctrlDirty = true) → r = true → d = true)
      ∧ (s.synth.oscillator3Mode ≠ 3#2 → m ≠ 3#2) := by
  cases h
  split
  · obtain ⟨d, r, hset, hdr⟩ := setO3_writes (nextO3 s.synth.oscillator3Mode) (consume (switchBit .ringsync) s)
    exact ⟨_, _, d, r, by rw [hset]; rfl, or_keeps _ _, hdr, fun _ => nextO3_ne _⟩
  · exact ⟨_, _, _, _, rfl, BitVec.and_self, id, id⟩

theorem forceO3_writes (s : State) :
    ∃ m d r, forceO3 s =
        { s with
          synth := { s.synth with oscillator3Mode := m }
          flags := { s.flags with ctrlDirty := d, ctrlResync := r } }
      ∧ ((s.flags.ctrlResync = true → s.flags.ctrlDirty = true) → r = true → d = true)
      ∧ (s.synth.oscillator3Mode ≠ 3#2 → m ≠ 3#2) := by
  unfold forceO3
  split
  · next m hband =>
    obtain ⟨d, r, hset, hdr⟩ := setO3_writes m s
    exact ⟨m, d, r, hset, hdr, fun _ => cvBand_ne hband⟩
  · exact ⟨_, _, _, rfl, id, id⟩

theorem o3Cv_writes (h : exec .o3Cv s = .next t) :
    ∃ m d r, t =
        { s with
          synth := { s.synth with oscillator3Mode := m }
          flags := { s.flags with ctrlDirty := d, ctrlResync := r }
          phase := 12, turn := 0 }
      ∧ ((s.flags.ctrlResync = true → s.flags.ctrlDirty = true) → r = true → d = true)
      ∧ (s.synth.oscillator3Mode ≠ 3#2 → m ≠ 3#2) := by
  cases h
  split
  · exact ⟨_, _, _, rfl, id, id⟩
  · obtain ⟨m, d, r, hforce, hdr, hm⟩ := forceO3_writes s
    exact ⟨m, d, r, by rw [hforce]; rfl, hdr, hm⟩

/-! ## P12 to P17 -/

theorem writeControl_writes (h : writeControl s = .next t) :
    ∃ pn m o, t = { s with pins := pn, mem := m, out := o }
      ∧ pinsIdle s.cfg pn = true ∧ (memoryWf s.mem = true → memoryWf m = true) := by
  unfold writeControl at h
  split at h
  · exact chipStore2_writes h
  · exact chipStore_writes h

/-- After P12 no control byte is owed and no resync flagged: either the byte is written, or none was owed (R150). -/
theorem ctrlWr_writes (h : exec .ctrlWr s = .next t) :
    ∃ r pn m o, t =
        { s with
          flags := { s.flags with ctrlDirty := false, ctrlResync := r }, pins := pn, mem := m, out := o
          phase := 13, turn := 0 }
      ∧ ((s.flags.ctrlResync = true → s.flags.ctrlDirty = true) → r = false)
      ∧ (driverIdle s = true → pinsIdle s.cfg pn = true) ∧ (memoryWf s.mem = true → memoryWf m = true) := by
  obtain ⟨u, hbody, hgoto⟩ := (andThen_eq_next _ _ _).1 h
  cases hgoto
  split at hbody
  · obtain ⟨v, hwrite, hclear⟩ := (andThen_eq_next _ _ _).1 hbody
    obtain ⟨_, _, _, rfl, hidle, hm⟩ := writeControl_writes hwrite
    cases hclear
    exact ⟨_, _, _, _, rfl, fun _ => rfl, fun _ => hidle, hm⟩
  · next hd =>
    cases hbody
    have hd : s.flags.ctrlDirty = false := by simpa using hd
    have hresync (himp : s.flags.ctrlResync = true → s.flags.ctrlDirty = true) : s.flags.ctrlResync = false := by
      simpa [hd] using himp
    exact ⟨_, _, _, _, by rw [← hd]; rfl, hresync, id, id⟩

theorem fmodeWr_writes (h : exec .fmodeWr s = .next t) :
    ∃ pn m o, t =
        { s with
          flags := { s.flags with filterDirty := false }, pins := pn, mem := m, out := o, phase := 14, turn := 0 }
      ∧ (driverIdle s = true → pinsIdle s.cfg pn = true) ∧ (memoryWf s.mem = true → memoryWf m = true) := by
  obtain ⟨u, hbody, hgoto⟩ := (andThen_eq_next _ _ _).1 h
  cases hgoto
  split at hbody
  · obtain ⟨v, hwrite, hclear⟩ := (andThen_eq_next _ _ _).1 hbody
    obtain ⟨_, _, _, rfl, hidle, hm⟩ := chipStore_writes hwrite
    cases hclear
    exact ⟨_, _, _, rfl, fun _ => hidle, hm⟩
  · next hd =>
    cases hbody
    have hd : s.flags.filterDirty = false := by simpa using hd
    exact ⟨_, _, _, by rw [← hd]; rfl, id, id⟩

theorem withFreqCache_writes (y : Synth) (k : FreqCh) (v : Sample) :
    ∃ a b c, withFreqCache y k v = { y with freq1 := a, freq2 := b, freq3 := c } := by
  cases k <;> exact ⟨_, _, _, rfl⟩

theorem writeFreq_writes {k : FreqCh} (h : writeFreq k s = .next t) :
    ∃ a b c pn m o, t =
        { s with synth := { s.synth with freq1 := a, freq2 := b, freq3 := c }, pins := pn, mem := m, out := o }
      ∧ pinsIdle s.cfg pn = true ∧ (memoryWf s.mem = true → memoryWf m = true) := by
  obtain ⟨v, -, hwrite⟩ := (andThen_eq_next _ _ _).1 h
  obtain ⟨u, hstore, hcache⟩ := (andThen_eq_next _ _ _).1 hwrite
  obtain ⟨_, _, _, rfl, hidle, hm⟩ := chipStore2_writes hstore
  obtain ⟨a, b, c, hy⟩ := withFreqCache_writes s.synth k (inputGet s.x (freqInput k))
  cases hcache
  exact ⟨a, b, c, _, _, _, by rw [← hy]; rfl, hidle, hm⟩

/-- Channels 1 and 2 stay at P14 with the next turn, channel 3 ends it (R152). -/
theorem afterFreq_writes (k : FreqCh) (s : State) :
    ∃ p n, afterFreq k s = { s with phase := p, turn := n }
      ∧ (p = s.phase ∧ n.toNat ≤ 2 ∨ p = 15#5 ∧ n = 0#2) := by
  cases k with
  | one => exact ⟨_, _, rfl, .inl ⟨rfl, by decide⟩⟩
  | two => exact ⟨_, _, rfl, .inl ⟨rfl, by decide⟩⟩
  | three => exact ⟨_, _, rfl, .inr ⟨rfl, rfl⟩⟩

theorem freqUpd_writes {k : FreqCh} (h : exec (.freqUpd k) s = .next t) :
    ∃ a b c pn m o p n, t =
        { s with
          synth := { s.synth with freq1 := a, freq2 := b, freq3 := c }, pins := pn, mem := m, out := o
          phase := p, turn := n }
      ∧ (driverIdle s = true → pinsIdle s.cfg pn = true) ∧ (memoryWf s.mem = true → memoryWf m = true)
      ∧ (p = s.phase ∧ n.toNat ≤ 2 ∨ p = 15#5 ∧ n = 0#2) := by
  obtain ⟨u, hbody, hafter⟩ := (andThen_eq_next _ _ _).1 h
  obtain ⟨p, n, hpn, hcase⟩ := afterFreq_writes k u
  cases hpn ▸ hafter
  split at hbody
  · obtain ⟨_, _, _, _, _, _, rfl, hidle, hm⟩ := writeFreq_writes hbody
    exact ⟨_, _, _, _, _, _, p, n, rfl, fun _ => hidle, hm, hcase⟩
  · cases hbody
    exact ⟨_, _, _, _, _, _, p, n, rfl, id, id, hcase⟩

theorem pwUpd_writes (h : exec .pwUpd s = .next t) :
    ∃ p pn m o, t =
        { s with synth := { s.synth with pulseWidth := p }, pins := pn, mem := m, out := o, phase := 16, turn := 0 }
      ∧ (p = s.synth.pulseWidth ∨ p = pulseWidthOf s.x.aPW)
      ∧ (driverIdle s = true → pinsIdle s.cfg pn = true) ∧ (memoryWf s.mem = true → memoryWf m = true) := by
  rw [exec, execPwUpd] at h
  generalize pulseWidthOf s.x.aPW = v at h ⊢
  obtain ⟨u, hbody, hgoto⟩ := (andThen_eq_next _ _ _).1 h
  cases hgoto
  split at hbody
  · obtain ⟨v, hwrite, hcache⟩ := (andThen_eq_next _ _ _).1 hbody
    obtain ⟨_, _, _, rfl, hidle, hm⟩ := chipStore2_writes hwrite
    cases hcache
    exact ⟨_, _, _, _, rfl, .inr rfl, fun _ => hidle, hm⟩
  · cases hbody
    exact ⟨_, _, _, _, rfl, .inl rfl, id, id⟩

theorem fcUpd_writes (h : exec .fcUpd s = .next t) :
    ∃ c pn m o, t =
        { s with synth := { s.synth with filterCutoff := c }, pins := pn, mem := m, out := o, phase := 17, turn := 0 }
      ∧ (c = s.synth.filterCutoff ∨ c = cutoffOf s.x.aFC)
      ∧ (driverIdle s = true → pinsIdle s.cfg pn = true) ∧ (memoryWf s.mem = true → memoryWf m = true) := by
  rw [exec, execFcUpd] at h
  generalize cutoffOf s.x.aFC = v at h ⊢
  obtain ⟨u, hbody, hgoto⟩ := (andThen_eq_next _ _ _).1 h
  cases hgoto
  split at hbody
  · obtain ⟨v, hwrite, hcache⟩ := (andThen_eq_next _ _ _).1 hbody
    obtain ⟨_, _, _, rfl, hidle, hm⟩ := chipStore2_writes hwrite
    cases hcache
    exact ⟨_, _, _, _, rfl, .inr rfl, fun _ => hidle, hm⟩
  · cases hbody
    exact ⟨_, _, _, _, rfl, .inl rfl, id, id⟩

/-- P17 validates the caches (R155). -/
theorem resUpd_writes (h : exec .resUpd s = .next t) :
    ∃ r pn m o, t =
        { s with
          synth := { s.synth with resonance := r }, flags := { s.flags with cachesValid := true }
          pins := pn, mem := m, out := o, phase := 18, turn := 0 }
      ∧ (driverIdle s = true → pinsIdle s.cfg pn = true) ∧ (memoryWf s.mem = true → memoryWf m = true) := by
  obtain ⟨u, hbody, hgoto⟩ := (andThen_eq_next _ _ _).1 h
  cases hgoto
  split at hbody
  · obtain ⟨v, hwrite, hcache⟩ := (andThen_eq_next _ _ _).1 hbody
    obtain ⟨_, _, _, rfl, hidle, hm⟩ := chipStore_writes hwrite
    cases hcache
    exact ⟨_, _, _, _, rfl, fun _ => hidle, hm⟩
  · cases hbody
    exact ⟨_, _, _, _, rfl, id, id⟩

/-! ## P18, P19 and P31 -/

/-- Both rows of P18 carry both arms (R103, R156, log 35). -/
theorem exec_persist {i : Instr} (hi : savesSettings i = true) (s : State) : exec i s = execDebRelease s := by
  cases i <;> cases hi
  · simp only [exec, execNvPersist, execDebRelease, ne_eq, ite_not]
  · rfl

/-- P18 with no switch pressed clears `IgnoreMask`; else it saves the settings byte (R103, R156). -/
theorem persist_writes {i : Instr} (hi : savesSettings i = true) (h : exec i s = .next t) :
    (s.switchMask = 0#3 ∧ t = { s with ignoreMask := 0, phase := 19, turn := 0 })
      ∨ ∃ v m o, s.switchMask ≠ 0#3
        ∧ t = { s with irq := { s.irq with saved := v }, mem := m, out := o, phase := 19, turn := 0 }
        ∧ (memoryWf s.mem = true → memoryWf m = true) := by
  rw [exec_persist hi] at h
  cases h
  split
  · next hm => exact .inl ⟨hm, rfl⟩
  · next hm =>
    rw [persistSettings, saveByteMasked_eq]
    exact .inr ⟨_, _, _, hm, rfl, nvWriteByte_wf s.mem _ _⟩

theorem ledOut_writes (h : exec .ledOut s = .next t) :
    ∃ l o, t = { s with led := l, out := o, phase := 0, turn := 0 } := by
  cases h
  exact ⟨_, _, rfl⟩

theorem clearRegisters_eq (s : State) :
    clearRegisters s =
      { s with
        synth := {
          s.synth with
          gateOff := false, pulseWidth := pwReset, filterCutoff := 0, resonance := 0
          freq1 := 0, freq2 := 0, freq3 := 0 }
        tuning := { s.tuning with mode := false }
        switchMask := 0, ignoreMask := 0
        flags := {
          ctrlDirty := true, ctrlResync := false, filterDirty := true, cachesValid := false, offsetChanged := false }
        led := { byte := 0, sync := false }
        mux := { s.mux with settled := false }
        pins := { s.pins with csN := true, ale := !s.cfg.aleActive } } := by
  simp only [clearRegisters, setSynth, setTuning, setSwitchMask, setIgnoreMask, setFlags, setLed, setMux, setPins]

/-- The load leaves valid codes, fixed values and cleared masks; nothing is written outward (R190). -/
theorem resetLoad_writes (h : exec .resetLoad s = .next t) :
    ∃ w f m off, t =
        { s with
          synth := {
            waveform := w, pulseWidth := pwReset, filterCutoff := 0, resonance := 0, filterType := f
            oscillator3Mode := m, gateOff := false, freq1 := 0, freq2 := 0, freq3 := 0 }
          tuning := { s.tuning with offset := off, mode := false }
          switchMask := 0, ignoreMask := 0
          flags := {
            ctrlDirty := true, ctrlResync := false, filterDirty := true, cachesValid := false, offsetChanged := false }
          led := { byte := 0, sync := false }
          mux := { s.mux with settled := false }
          pins := { s.pins with csN := true, ale := !s.cfg.aleActive }
          irq := { s.irq with pending := false, tickMasked := false }
          phase := 0, turn := 0 }
      ∧ waveformCode w = true ∧ m ≠ 3#2 ∧ off.toNat ≤ 613 := by
  obtain ⟨w, f, m, hload, hw, hm⟩ := loadSettings_writes (nvReadByte s.mem s.cfg.nvSettings) s.synth
  have hoff := loadOffset_le (nvReadByte s.mem s.cfg.nvSettings) (nvReadWord s.mem s.cfg.nvTuning)
  simp only [exec, execResetLoad, hload, clearRegisters_eq, setSynth, setTuning, setIrq, goto_eq] at h
  rw [Host.Outcome.next.injEq] at h
  exact ⟨w, f, m, _, h.symm, hw, hm, hoff⟩

end Sys2Proof.Machine
end

section
/-! Where each register is written (R11 to R31, R36), and which bits of `IgnoreMask` can go (R24). -/

namespace Sys2Proof.Machine

variable {s t : State}

/-- Each register keeps its value but at the phases that write it; three of them an operation invoked by name may also
write (log 11). -/
structure RegistersKept (s t : State) : Prop where
  x : s.phase ≠ 1#5 → t.x = s.x
  switchMask : s.phase ≠ 2#5 → t.switchMask = s.switchMask
  mode : s.phase ≠ 3#5 → t.tuning.mode = s.tuning.mode
  offset : s.phase ≠ 4#5 → t.tuning.offset = s.tuning.offset
  gateOff : s.phase ≠ 5#5 → s.phase ≠ 8#5 → t.synth.gateOff = s.synth.gateOff
  filterType : s.phase ≠ 6#5 → t.synth.filterType = s.synth.filterType
  waveform : s.phase ≠ 7#5 → s.phase ≠ 8#5 → s.phase ≠ 9#5 → t.synth.waveform = s.synth.waveform
  oscillator3 : s.phase ≠ 3#5 → s.phase ≠ 10#5 → s.phase ≠ 11#5 → t.synth.oscillator3Mode = s.synth.oscillator3Mode
  freqs : s.phase ≠ 14#5 → t.synth.freq1 = s.synth.freq1 ∧ t.synth.freq2 = s.synth.freq2 ∧ t.synth.freq3 = s.synth.freq3
  pulseWidth : s.phase ≠ 15#5 → t.synth.pulseWidth = s.synth.pulseWidth
  filterCutoff : s.phase ≠ 16#5 → t.synth.filterCutoff = s.synth.filterCutoff
  resonance : s.phase ≠ 17#5 → t.synth.resonance = s.synth.resonance
  led : s.phase ≠ 19#5 → t.led = s.led
  ignoreMask : s.request = none → s.phase ∉ [3#5, 5#5, 6#5, 8#5, 10#5, 18#5] → t.ignoreMask = s.ignoreMask
  ctrlDirty : s.phase ∉ [3#5, 5#5, 7#5, 8#5, 9#5, 10#5, 11#5, 12#5] → t.flags.ctrlDirty = s.flags.ctrlDirty
  ctrlResync : s.phase ∉ [8#5, 10#5, 11#5, 12#5] → t.flags.ctrlResync = s.flags.ctrlResync
  filterDirty : s.phase ≠ 6#5 → s.phase ≠ 13#5 → t.flags.filterDirty = s.flags.filterDirty
  cachesValid : s.phase ≠ 17#5 → t.flags.cachesValid = s.flags.cachesValid
  offsetChange : s.phase ≠ 4#5 → t.flags.offsetChanged = s.flags.offsetChanged ∧ t.tuning.off0 = s.tuning.off0
  mux : s.request = none → s.phase ≠ 1#5 → t.mux = s.mux
  pins : s.request = none → s.phase ∉ [5#5, 8#5, 12#5, 13#5, 14#5, 15#5, 16#5, 17#5] → t.pins = s.pins
  pending : s.phase ≠ 0#5 → t.irq.pending = s.irq.pending
  tickMasked : t.irq.tickMasked = s.irq.tickMasked
  saved : s.phase ≠ 3#5 → s.phase ≠ 18#5 → t.irq.saved = s.irq.saved
  cfg : t.cfg = s.cfg

theorem named_keeps_registers {i : Instr} (hreq : s.request ≠ none) (hi : NamedRuns s.cfg i)
    (h : exec i s = .next t) : RegistersKept s t := by
  obtain ⟨_, _, _, _, _, _, _, _, rfl, -⟩ := named_writes hi h
  constructor <;> simp [hreq]

/-- The phases of the sequencer, one by one: what the operation of the phase writes is what the phase may write. -/
theorem sequencer_keeps_registers {i : Instr} (hp31 : s.phase ≠ 31#5) (hrun : SequencerRuns s.phase i)
    (h : exec i s = .next t) : RegistersKept s t := by
  generalize hp : s.phase = p at hrun
  cases hrun with
  | tick =>
    obtain rfl | rfl := tick_writes h
    all_goals constructor <;> simp [hp]
  | muxScan => obtain ⟨_, _, _, _, _, rfl⟩ := muxScan_writes h; constructor <;> simp [hp]
  | debLoad => obtain ⟨_, rfl⟩ := debLoad_writes h; constructor <;> simp [hp]
  | toggle i hi => obtain ⟨_, _, _, _, _, _, _, rfl, -⟩ := toggle_writes hi h; constructor <;> simp [hp]
  | tuneDec => obtain ⟨_, _, rfl, -⟩ := tuneDec_writes h; constructor <;> simp [hp]
  | tuneInc => obtain ⟨_, _, rfl, -⟩ := tuneInc_writes h; constructor <;> simp [hp]
  | gateMute => obtain ⟨_, _, _, _, _, _, rfl, -⟩ := gateMute_writes h; constructor <;> simp [hp]
  | filtNext => obtain ⟨_, _, _, rfl, -⟩ := filtNext_writes h; constructor <;> simp [hp]
  | wfDefault => obtain ⟨_, _, rfl, -⟩ := wfDefault_writes h; constructor <;> simp [hp]
  | gateRestore => obtain ⟨_, _, _, _, _, _, _, rfl, -⟩ := gateRestore_writes h; constructor <;> simp [hp]
  | wfNext => obtain ⟨_, _, _, rfl, -⟩ := wfNext_writes h; constructor <;> simp [hp]
  | wfPot => obtain ⟨_, _, rfl, -⟩ := wfPot_writes h; constructor <;> simp [hp]
  | o3Next => obtain ⟨_, _, _, _, rfl, -⟩ := o3Next_writes h; constructor <;> simp [hp]
  | o3Cv => obtain ⟨_, _, _, rfl, -⟩ := o3Cv_writes h; constructor <;> simp [hp]
  | ctrlWr => obtain ⟨_, _, _, _, rfl, -⟩ := ctrlWr_writes h; constructor <;> simp [hp]
  | fmodeWr => obtain ⟨_, _, _, rfl, -⟩ := fmodeWr_writes h; constructor <;> simp [hp]
  | freqUpd k => obtain ⟨_, _, _, _, _, _, _, _, rfl, -⟩ := freqUpd_writes h; constructor <;> simp [hp]
  | pwUpd => obtain ⟨_, _, _, _, rfl, -⟩ := pwUpd_writes h; constructor <;> simp [hp]
  | fcUpd => obtain ⟨_, _, _, _, rfl, -⟩ := fcUpd_writes h; constructor <;> simp [hp]
  | resUpd => obtain ⟨_, _, _, _, rfl, -⟩ := resUpd_writes h; constructor <;> simp [hp]
  | persist i hi =>
    obtain ⟨-, rfl⟩ | ⟨_, _, _, -, rfl, -⟩ := persist_writes hi h
    all_goals constructor <;> simp [hp]
  | ledOut => obtain ⟨_, _, rfl⟩ := ledOut_writes h; constructor <;> simp [hp]
  | resetLoad => exact absurd hp hp31

/-- Whatever a step runs, the phase's operation or an invoked one, keeps the registers of other phases. -/
theorem operation_keeps_registers {i : Instr} (hrun : StepRuns s i) (h : exec i s = .next t) (hp31 : s.phase ≠ 31#5) :
    RegistersKept s t := by
  obtain ⟨-, hseq⟩ | ⟨hreq, -, hnamed⟩ := hrun
  · exact sequencer_keeps_registers hp31 hseq h
  · exact named_keeps_registers hreq hnamed h

/-- Settles O51: what arrives touches `pending` only, and then one operation runs. -/
theorem registersChangeOnlyAtTheirPhases : Obligations.RegistersChangeOnlyAtTheirPhases := by
  intro s t hr hp31 h
  obtain ⟨u, i, harr, hexec, hrun⟩ := step_runs h
  obtain ⟨es, b, rfl, hb⟩ := arrive_without_reset harr hr
  have k := operation_keeps_registers hrun hexec hp31
  exact ⟨k.x, k.switchMask, k.mode, k.offset, k.gateOff, k.filterType, k.waveform, k.oscillator3, k.freqs, k.pulseWidth,
    k.filterCutoff, k.resonance, k.led, k.ignoreMask, k.ctrlDirty, k.ctrlResync, k.filterDirty, k.cachesValid,
    k.offsetChange, k.mux, k.pins, fun hp ht => (k.pending hp).trans (hb ht), k.tickMasked, k.saved, k.cfg⟩

/-- `t` holds every bit of `IgnoreMask` that `s` holds, or is what P18 leaves with no switch pressed (R24). -/
def IgnoredKept (s t : State) : Prop :=
  t.ignoreMask &&& s.ignoreMask = s.ignoreMask ∨ (s.phase = 18#5 ∧ s.switchMask = 0#3 ∧ t.ignoreMask = 0#3)

/-- The consuming phases set bits; P18 alone clears them, and only with no switch pressed (R102, R103). -/
theorem sequencer_keeps_ignored {i : Instr} (hreq : s.request = none) (hp31 : s.phase ≠ 31#5)
    (hrun : SequencerRuns s.phase i) (h : exec i s = .next t) : IgnoredKept s t := by
  by_cases hwriter : s.phase ∈ [3#5, 5#5, 6#5, 8#5, 10#5, 18#5]
  · generalize hp : s.phase = p at hrun
    cases hrun with
    | toggle i hi => obtain ⟨_, _, _, _, _, _, _, rfl, hig, -⟩ := toggle_writes hi h; exact .inl hig
    | gateMute => obtain ⟨_, _, _, _, _, _, rfl, hig, -⟩ := gateMute_writes h; exact .inl hig
    | filtNext => obtain ⟨_, _, _, rfl, hig⟩ := filtNext_writes h; exact .inl hig
    | gateRestore => obtain ⟨_, _, _, _, _, _, _, rfl, hig, -⟩ := gateRestore_writes h; exact .inl hig
    | wfNext => obtain ⟨_, _, _, rfl, hig, -⟩ := wfNext_writes h; exact .inl hig
    | o3Next => obtain ⟨_, _, _, _, rfl, hig, -⟩ := o3Next_writes h; exact .inl hig
    | persist i hi =>
      obtain ⟨hm, rfl⟩ | ⟨_, _, _, -, rfl, -⟩ := persist_writes hi h
      · exact .inr ⟨hp, hm, rfl⟩
      · exact .inl BitVec.and_self
    | _ => exact absurd (hp ▸ hwriter) (by decide)
  · have hkept := (sequencer_keeps_registers hp31 hrun h).ignoreMask hreq hwriter
    exact .inl (by rw [hkept, BitVec.and_self])

theorem named_keeps_ignored {i : Instr} (hi : NamedRuns s.cfg i) (h : exec i s = .next t) : IgnoredKept s t := by
  obtain ⟨_, _, _, _, _, _, _, _, rfl, hig, -⟩ := named_writes hi h
  exact .inl hig

theorem operation_keeps_ignored {i : Instr} (hrun : StepRuns s i) (h : exec i s = .next t) (hp31 : s.phase ≠ 31#5) :
    IgnoredKept s t := by
  obtain ⟨hreq, hseq⟩ | ⟨-, -, hnamed⟩ := hrun
  · exact sequencer_keeps_ignored hreq hp31 hseq h
  · exact named_keeps_ignored hnamed h

/-- Settles O52: nothing that arrives but a reset touches the masks, and then one operation runs. -/
theorem ignoreMaskClearsOnlyWhenAllReleased : Obligations.IgnoreMaskClearsOnlyWhenAllReleased := by
  intro s t hr hp31 h
  obtain ⟨u, i, harr, hexec, hrun⟩ := step_runs h
  obtain ⟨es, b, rfl, -⟩ := arrive_without_reset harr hr
  have kept := operation_keeps_ignored hrun hexec hp31
  exact kept

end Sys2Proof.Machine
end

section
/-! Safe states (R28): what holds of the values at every phase, what each phase has settled, and that every step keeps
both. -/

namespace Sys2Proof.Machine

variable {s t u : State}

/-- The part of a safe state that does not speak of the phase. -/
structure ValuesSafe (s : State) : Prop where
  config : s.cfg.wf = true
  waveform : waveformCode s.synth.waveform = true
  pulseWidth : 160 ≤ s.synth.pulseWidth.toNat ∧ s.synth.pulseWidth.toNat ≤ 4095
  filterCutoff : s.synth.filterCutoff.toNat ≤ 2046
  oscillator3 : s.synth.oscillator3Mode ≠ 3#2
  offset : s.tuning.offset.toNat ≤ 613
  resync : s.flags.ctrlResync = true → s.flags.ctrlDirty = true
  pins : pinsIdle s.cfg s.pins = true
  memory : memoryWf s.mem = true

/-- What stands settled at phase `p` (R12, R25, R26): the waveform from P8 on, the control flags from P13, `filterDirty`
from P14, the caches from P18, and between ticks all of it once a first tick has run. -/
structure DutiesDone (p : Phase) (w : Byte) (f : Flags) : Prop where
  waveformSet : (8 ≤ p.toNat ∧ p.toNat ≤ 19) ∨ f.cachesValid = true → w ≠ wfNone
  ctrlClear : 13 ≤ p.toNat ∧ p.toNat ≤ 19 → f.ctrlDirty = false
  filterClear : 14 ≤ p.toNat ∧ p.toNat ≤ 19 → f.filterDirty = false
  caches : 18 ≤ p.toNat ∧ p.toNat ≤ 19 → f.cachesValid = true
  idleClear : p = 0#5 ∧ f.cachesValid = true → f.ctrlDirty = false ∧ f.filterDirty = false

/-- The parts make up a safe state. -/
theorem safeState_iff (s : State) :
    SafeState s ↔
      ValuesSafe s ∧ DutiesDone s.phase s.synth.waveform s.flags ∧ sequencerLegal s.phase s.turn = true
        ∧ (s.request ≠ none → insideTick s.phase = true) ∧ (s.phase ≠ 31#5 → s.irq.tickMasked = false) :=
  ⟨fun h =>
    ⟨⟨h.config, h.waveform, h.pulseWidth, h.filterCutoff, h.oscillator3, h.offset, h.resync, h.pins, h.memory⟩,
      ⟨h.waveformSet, h.ctrlClear, h.filterClear, h.caches, h.idleClear⟩, h.sequencer, h.invocation, h.mask⟩,
    fun ⟨v, d, hseq, hinv, hmask⟩ =>
    { config := v.config, sequencer := hseq, invocation := hinv, waveform := v.waveform, waveformSet := d.waveformSet
      pulseWidth := v.pulseWidth, filterCutoff := v.filterCutoff, oscillator3 := v.oscillator3, offset := v.offset
      resync := v.resync, ctrlClear := d.ctrlClear, filterClear := d.filterClear, caches := d.caches
      idleClear := d.idleClear, pins := v.pins, mask := hmask, memory := v.memory }⟩

/-! ## What a phase asks, by the stretch of the tick it lies in -/

section stretches

variable {p : Phase} {w : Byte} {f : Flags}

theorem DutiesDone.atIdle (hp : p = 0#5)
    (h : f.cachesValid = true → w ≠ wfNone ∧ f.ctrlDirty = false ∧ f.filterDirty = false) : DutiesDone p w f := by
  subst hp
  constructor <;> simp_all

theorem DutiesDone.upToP7 (hp : 1 ≤ p.toNat ∧ p.toNat ≤ 7) (hw : f.cachesValid = true → w ≠ wfNone) :
    DutiesDone p w f where
  waveformSet h := hw (h.resolve_left (by omega))
  ctrlClear h := by omega
  filterClear h := by omega
  caches h := by omega
  idleClear h := by rw [h.1] at hp; exact absurd hp (by decide)

theorem DutiesDone.p8ToP12 (hp : 8 ≤ p.toNat ∧ p.toNat ≤ 12) (hw : w ≠ wfNone) : DutiesDone p w f where
  waveformSet _ := hw
  ctrlClear h := by omega
  filterClear h := by omega
  caches h := by omega
  idleClear h := by rw [h.1] at hp; exact absurd hp (by decide)

theorem DutiesDone.p13 (hp : p = 13#5) (hw : w ≠ wfNone) (hc : f.ctrlDirty = false) : DutiesDone p w f := by
  subst hp
  constructor <;> simp_all

theorem DutiesDone.p14ToP17 (hp : 14 ≤ p.toNat ∧ p.toNat ≤ 17) (hw : w ≠ wfNone) (hc : f.ctrlDirty = false)
    (hf : f.filterDirty = false) : DutiesDone p w f where
  waveformSet _ := hw
  ctrlClear _ := hc
  filterClear _ := hf
  caches h := by omega
  idleClear _ := ⟨hc, hf⟩

theorem DutiesDone.fromP18 (hw : w ≠ wfNone) (hc : f.ctrlDirty = false)
    (hf : f.filterDirty = false) (hv : f.cachesValid = true) : DutiesDone p w f where
  waveformSet _ := hw
  ctrlClear _ := hc
  filterClear _ := hf
  caches _ := hv
  idleClear _ := ⟨hc, hf⟩

end stretches

/-! ## Steps from safe states -/

/-- The load of P31 leaves a safe state, whatever the values were before (R190). -/
theorem resetLoad_safe (hc : s.cfg.wf = true) (hm : memoryWf s.mem = true) (hreq : s.request = none)
    (h : exec .resetLoad s = .next t) : SafeState t := by
  obtain ⟨w, f, m, off, rfl, hw, ho3, hoff⟩ := resetLoad_writes h
  refine (safeState_iff _).2 ⟨⟨hc, hw, by simp, by simp, ho3, hoff, by simp, by simp [pinsIdle], hm⟩,
    .atIdle rfl (by simp), rfl, fun hne => absurd hreq hne, fun _ => rfl⟩

/-- The sequencer's step to a state whose values are safe and whose phase's duties are done. -/
theorem ValuesSafe.safe (hv : ValuesSafe t) (hd : DutiesDone t.phase t.synth.waveform t.flags)
    (hseq : sequencerLegal t.phase t.turn = true) (hreq : t.request = none) (hmask : t.irq.tickMasked = false) :
    SafeState t :=
  (safeState_iff t).2 ⟨hv, hd, hseq, fun hne => absurd hreq hne, fun _ => hmask⟩

theorem sequencer_keeps_safe {i : Instr} (hs : SafeState s) (hreq : s.request = none) (hrun : SequencerRuns s.phase i)
    (h : exec i s = .next t) : SafeState t := by
  obtain ⟨hv, hd, hseq, -, hmask⟩ := (safeState_iff s).1 hs
  obtain ⟨hset, hctrl, hfilter, hcaches, hidle⟩ := hd
  generalize hp : s.phase = p at hrun hset hctrl hfilter hcaches hidle hmask
  cases hrun with
  | tick =>
    obtain rfl | rfl := tick_writes h
    · exact ValuesSafe.safe { hv with } (.upToP7 (p := 1#5) (by decide) fun hc => hset (.inr hc)) rfl hreq
        (hmask (by decide))
    · exact hs
  | muxScan =>
    obtain ⟨_, _, _, _, _, rfl⟩ := muxScan_writes h
    exact ValuesSafe.safe { hv with } (.upToP7 (p := 2#5) (by decide) fun hc => hset (.inr hc)) rfl hreq
      (hmask (by decide))
  | debLoad =>
    obtain ⟨_, rfl⟩ := debLoad_writes h
    exact ValuesSafe.safe { hv with } (.upToP7 (p := 3#5) (by decide) fun hc => hset (.inr hc)) rfl hreq
      (hmask (by decide))
  | toggle i hi =>
    obtain ⟨_, _, _, _, _, _, _, rfl, -, hdirty, ho3, hm⟩ := toggle_writes hi h
    exact ValuesSafe.safe
      { hv with oscillator3 := ho3 hv.oscillator3, resync := fun hr => hdirty (hv.resync hr), memory := hm hv.memory }
      (.upToP7 (p := 4#5) (by decide) fun hc => hset (.inr hc)) rfl hreq (hmask (by decide))
  | tuneDec =>
    obtain ⟨_, _, rfl, hoff⟩ := tuneDec_writes h
    exact ValuesSafe.safe { hv with offset := hoff hv.offset }
      (.upToP7 (by rw [hp]; decide) fun hc => hset (.inr hc)) (by rw [hp]; rfl) hreq (hmask (by decide))
  | tuneInc =>
    obtain ⟨_, _, rfl, hoff⟩ := tuneInc_writes h
    exact ValuesSafe.safe { hv with offset := hoff hv.offset }
      (.upToP7 (p := 5#5) (by decide) fun hc => hset (.inr hc)) rfl hreq (hmask (by decide))
  | gateMute =>
    obtain ⟨_, _, _, _, _, _, rfl, -, hdirty, hidle, hm⟩ := gateMute_writes h
    exact ValuesSafe.safe
      { hv with resync := fun hr => hdirty (hv.resync hr), pins := hidle hv.pins, memory := hm hv.memory }
      (.upToP7 (p := 6#5) (by decide) fun hc => hset (.inr hc)) rfl hreq (hmask (by decide))
  | filtNext =>
    obtain ⟨_, _, _, rfl, -⟩ := filtNext_writes h
    exact ValuesSafe.safe { hv with } (.upToP7 (p := 7#5) (by decide) fun hc => hset (.inr hc)) rfl hreq
      (hmask (by decide))
  | wfDefault =>
    obtain ⟨_, _, rfl, hdirty, hcode, hne⟩ := wfDefault_writes h
    exact ValuesSafe.safe { hv with waveform := hcode hv.waveform, resync := fun hr => hdirty (hv.resync hr) }
      (.p8ToP12 (p := 8#5) (by decide) hne) rfl hreq (hmask (by decide))
  | gateRestore =>
    obtain ⟨_, _, _, _, _, _, _, rfl, -, hresync, hidle, hm⟩ := gateRestore_writes h
    exact ValuesSafe.safe { hv with resync := hresync hv.resync, pins := hidle hv.pins, memory := hm hv.memory }
      (.p8ToP12 (p := 9#5) (by decide) (hset (.inl (by decide)))) rfl hreq (hmask (by decide))
  | wfNext =>
    obtain ⟨_, _, _, rfl, -, hdirty, hnext⟩ := wfNext_writes h
    obtain ⟨hcode, hne⟩ := hnext hv.waveform (hset (.inl (by decide)))
    exact ValuesSafe.safe { hv with waveform := hcode, resync := fun hr => hdirty (hv.resync hr) }
      (.p8ToP12 (p := 9#5) (by decide) hne) rfl hreq (hmask (by decide))
  | wfPot =>
    obtain ⟨_, _, rfl, hdirty, hnext⟩ := wfPot_writes h
    obtain ⟨hcode, hne⟩ := hnext hv.waveform (hset (.inl (by decide)))
    exact ValuesSafe.safe { hv with waveform := hcode, resync := fun hr => hdirty (hv.resync hr) }
      (.p8ToP12 (p := 10#5) (by decide) hne) rfl hreq (hmask (by decide))
  | o3Next =>
    obtain ⟨_, _, _, _, rfl, -, hresync, ho3⟩ := o3Next_writes h
    exact ValuesSafe.safe { hv with oscillator3 := ho3 hv.oscillator3, resync := hresync hv.resync }
      (.p8ToP12 (p := 11#5) (by decide) (hset (.inl (by decide)))) rfl hreq (hmask (by decide))
  | o3Cv =>
    obtain ⟨_, _, _, rfl, hresync, ho3⟩ := o3Cv_writes h
    exact ValuesSafe.safe { hv with oscillator3 := ho3 hv.oscillator3, resync := hresync hv.resync }
      (.p8ToP12 (p := 12#5) (by decide) (hset (.inl (by decide)))) rfl hreq (hmask (by decide))
  | ctrlWr =>
    obtain ⟨_, _, _, _, rfl, hresync, hidle, hm⟩ := ctrlWr_writes h
    exact ValuesSafe.safe
      { hv with resync := fun hr => (hresync hv.resync).symm.trans hr, pins := hidle hv.pins, memory := hm hv.memory }
      (.p13 rfl (hset (.inl (by decide))) rfl) rfl hreq (hmask (by decide))
  | fmodeWr =>
    obtain ⟨_, _, _, rfl, hidle, hm⟩ := fmodeWr_writes h
    exact ValuesSafe.safe { hv with pins := hidle hv.pins, memory := hm hv.memory }
      (.p14ToP17 (p := 14#5) (by decide) (hset (.inl (by decide))) (hctrl (by decide)) rfl) rfl hreq (hmask (by decide))
  | freqUpd k =>
    obtain ⟨_, _, _, _, _, _, p, n, rfl, hidle, hm, hpn⟩ := freqUpd_writes h
    rw [hp] at hpn
    have hphase : 14 ≤ p.toNat ∧ p.toNat ≤ 17 := by obtain ⟨rfl, -⟩ | ⟨rfl, -⟩ := hpn <;> decide
    have hlegal : sequencerLegal p n = true := by obtain ⟨rfl, hn⟩ | ⟨rfl, rfl⟩ := hpn <;> simp [sequencerLegal, *]
    exact ValuesSafe.safe { hv with pins := hidle hv.pins, memory := hm hv.memory }
      (.p14ToP17 hphase (hset (.inl (by decide))) (hctrl (by decide)) (hfilter (by decide))) hlegal hreq
      (hmask (by decide))
  | pwUpd =>
    obtain ⟨_, _, _, _, rfl, hpw, hidle, hm⟩ := pwUpd_writes h
    have hbounds := hpw.elim (· ▸ hv.pulseWidth) (· ▸ pulseWidthOf_bounds _)
    exact ValuesSafe.safe { hv with pulseWidth := hbounds, pins := hidle hv.pins, memory := hm hv.memory }
      (.p14ToP17 (p := 16#5) (by decide) (hset (.inl (by decide))) (hctrl (by decide)) (hfilter (by decide))) rfl hreq
      (hmask (by decide))
  | fcUpd =>
    obtain ⟨_, _, _, _, rfl, hfc, hidle, hm⟩ := fcUpd_writes h
    have hbound := hfc.elim (· ▸ hv.filterCutoff) (· ▸ cutoffOf_le _)
    exact ValuesSafe.safe { hv with filterCutoff := hbound, pins := hidle hv.pins, memory := hm hv.memory }
      (.p14ToP17 (p := 17#5) (by decide) (hset (.inl (by decide))) (hctrl (by decide)) (hfilter (by decide))) rfl hreq
      (hmask (by decide))
  | resUpd =>
    obtain ⟨_, _, _, _, rfl, hidle, hm⟩ := resUpd_writes h
    exact ValuesSafe.safe { hv with pins := hidle hv.pins, memory := hm hv.memory }
      (.fromP18 (hset (.inl (by decide))) (hctrl (by decide)) (hfilter (by decide)) rfl) rfl
      hreq (hmask (by decide))
  | persist i hi =>
    have duties := DutiesDone.fromP18 (p := 19#5) (hset (.inl (by decide))) (hctrl (by decide))
      (hfilter (by decide)) (hcaches (by decide))
    obtain ⟨-, rfl⟩ | ⟨_, _, _, -, rfl, hm⟩ := persist_writes hi h
    · exact ValuesSafe.safe { hv with } duties rfl hreq (hmask (by decide))
    · exact ValuesSafe.safe { hv with memory := hm hv.memory } duties rfl hreq (hmask (by decide))
  | ledOut =>
    obtain ⟨_, _, rfl⟩ := ledOut_writes h
    exact ValuesSafe.safe { hv with }
      (.atIdle rfl fun _ => ⟨hset (.inl (by decide)), hctrl (by decide), hfilter (by decide)⟩) rfl hreq
      (hmask (by decide))
  | resetLoad => exact resetLoad_safe hv.config hv.memory hreq h

/-- An operation invoked by name leaves the phase, the synth values and the flags alone. -/
theorem named_keeps_safe {i : Instr} (hs : SafeState s) (hi : NamedRuns s.cfg i) (h : exec i s = .next t) :
    SafeState t := by
  obtain ⟨hv, hd, hseq, -, hmask⟩ := (safeState_iff s).1 hs
  obtain ⟨_, _, _, _, _, _, _, _, rfl, -, hidle, hm⟩ := named_writes hi h
  exact (safeState_iff _).2
    ⟨{ hv with pins := hidle hv.pins, memory := hm hv.memory }, hd, hseq, fun hne => absurd rfl hne, hmask⟩

/-- The state at reset is safe under every configuration within the constraints (R33). -/
theorem resetWith_safe {c : Config} (hc : c.wf = true) : SafeState (State.resetWith c) := by
  refine (safeState_iff _).2 ⟨?_, ?_, rfl, fun hne => absurd rfl hne, fun hne => absurd rfl hne⟩
  · constructor <;> simp [State.resetWith, pinsIdle, hc, waveformCode, memoryWf, rising]
  · constructor <;> simp [State.resetWith]

/-- Reset entry differs from the reset state in the store, the script and the record only (R191). -/
theorem resetEntry_safe (hc : s.cfg.wf = true) (hm : memoryWf s.mem = true) : SafeState (resetEntry s) := by
  obtain ⟨hv, hrest⟩ := (safeState_iff _).1 (resetWith_safe hc)
  exact (safeState_iff _).2 ⟨{ hv with memory := chipForgotten_wf s.mem hm }, hrest⟩

theorem arrive_keeps_safe (hs : SafeState s) (h : arrive s = .next u) : SafeState u := by
  obtain ⟨-, rfl⟩ | ⟨es, -, rfl⟩ | ⟨es, -, rfl⟩ | ⟨es, -, rfl⟩ := (arrive_eq_next s u).1 h
  · exact hs
  · exact { hs with }
  · exact { hs with }
  · exact resetEntry_safe hs.config hs.memory

/-- Settles O56: the event keeps a safe state, and so does the operation that then runs. -/
theorem stepKeepsSafeStates : Obligations.StepKeepsSafeStates := by
  intro s t hs h
  obtain ⟨u, i, harr, hexec, ⟨hreq, hseq⟩ | ⟨-, -, hnamed⟩⟩ := step_runs h
  · exact sequencer_keeps_safe (arrive_keeps_safe hs harr) hreq hseq hexec
  · exact named_keeps_safe (arrive_keeps_safe hs harr) hnamed hexec

/-! ## The masks between ticks -/

theorem arrive_keeps_noCalls (hn : noCalls s = true) (h : arrive s = .next u) : noCalls u = true := by
  obtain ⟨hreq, hall⟩ := Bool.and_eq_true_iff.1 hn
  obtain ⟨-, rfl⟩ | ⟨es, he, rfl⟩ | ⟨es, he, rfl⟩ | ⟨es, he, rfl⟩ := (arrive_eq_next s u).1 h
  · exact hn
  all_goals
    rw [he, List.all_cons, Bool.and_eq_true_iff] at hall
  · exact Bool.and_eq_true_iff.2 ⟨hreq, hall.2⟩
  · exact Bool.and_eq_true_iff.2 ⟨hreq, hall.2⟩
  · exact Bool.and_eq_true_iff.2 ⟨rfl, hall.2⟩

/-- The state at reset has its masks released, under every configuration (R33). -/
theorem resetWith_released (c : Config) : MasksReleased (State.resetWith c) := ⟨rfl, fun _ _ => rfl⟩

theorem arrive_keeps_released (hr : MasksReleased s) (h : arrive s = .next u) : MasksReleased u := by
  refine ⟨arrive_keeps_noCalls hr.quiet h, ?_⟩
  obtain ⟨-, rfl⟩ | ⟨es, -, rfl⟩ | ⟨es, -, rfl⟩ | ⟨es, -, rfl⟩ := (arrive_eq_next s u).1 h
  · exact hr.released
  · exact hr.released
  · exact hr.released
  · exact fun _ _ => rfl

/-- Inside P1 to P18 nothing is asked of the masks. -/
theorem MasksReleased.passing {p : Phase} (hp : t.phase = p) (hp' : p ≠ 19#5 ∧ p ≠ 0#5) (hn : noCalls t = true) :
    MasksReleased t :=
  ⟨hn, fun h => (h.elim (hp ▸ hp'.1) (hp ▸ hp'.2)).elim⟩

/-- P18 leaves the masks released (R103), P19 and the idle P0 leave them alone, and no operation of the sequencer
invokes another or touches the script of events. -/
theorem sequencer_keeps_released {i : Instr} (hr : MasksReleased s) (hrun : SequencerRuns s.phase i)
    (h : exec i s = .next t) : MasksReleased t := by
  generalize hp : s.phase = p at hrun
  cases hrun with
  | tick =>
    obtain rfl | rfl := tick_writes h
    · exact .passing (p := 1#5) rfl (by decide) hr.quiet
    · exact hr
  | muxScan => obtain ⟨_, _, _, _, _, rfl⟩ := muxScan_writes h; exact .passing (p := 2#5) rfl (by decide) hr.quiet
  | debLoad => obtain ⟨_, rfl⟩ := debLoad_writes h; exact .passing (p := 3#5) rfl (by decide) hr.quiet
  | toggle i hi =>
    obtain ⟨_, _, _, _, _, _, _, rfl, -⟩ := toggle_writes hi h
    exact .passing (p := 4#5) rfl (by decide) hr.quiet
  | tuneDec => obtain ⟨_, _, rfl, -⟩ := tuneDec_writes h; exact .passing hp (by decide) hr.quiet
  | tuneInc => obtain ⟨_, _, rfl, -⟩ := tuneInc_writes h; exact .passing (p := 5#5) rfl (by decide) hr.quiet
  | gateMute =>
    obtain ⟨_, _, _, _, _, _, rfl, -⟩ := gateMute_writes h
    exact .passing (p := 6#5) rfl (by decide) hr.quiet
  | filtNext => obtain ⟨_, _, _, rfl, -⟩ := filtNext_writes h; exact .passing (p := 7#5) rfl (by decide) hr.quiet
  | wfDefault => obtain ⟨_, _, rfl, -⟩ := wfDefault_writes h; exact .passing (p := 8#5) rfl (by decide) hr.quiet
  | gateRestore =>
    obtain ⟨_, _, _, _, _, _, _, rfl, -⟩ := gateRestore_writes h
    exact .passing (p := 9#5) rfl (by decide) hr.quiet
  | wfNext => obtain ⟨_, _, _, rfl, -⟩ := wfNext_writes h; exact .passing (p := 9#5) rfl (by decide) hr.quiet
  | wfPot => obtain ⟨_, _, rfl, -⟩ := wfPot_writes h; exact .passing (p := 10#5) rfl (by decide) hr.quiet
  | o3Next => obtain ⟨_, _, _, _, rfl, -⟩ := o3Next_writes h; exact .passing (p := 11#5) rfl (by decide) hr.quiet
  | o3Cv => obtain ⟨_, _, _, rfl, -⟩ := o3Cv_writes h; exact .passing (p := 12#5) rfl (by decide) hr.quiet
  | ctrlWr => obtain ⟨_, _, _, _, rfl, -⟩ := ctrlWr_writes h; exact .passing (p := 13#5) rfl (by decide) hr.quiet
  | fmodeWr => obtain ⟨_, _, _, rfl, -⟩ := fmodeWr_writes h; exact .passing (p := 14#5) rfl (by decide) hr.quiet
  | freqUpd k =>
    obtain ⟨_, _, _, _, _, _, q, n, rfl, -, -, hq⟩ := freqUpd_writes h
    rw [hp] at hq
    obtain ⟨rfl, -⟩ | ⟨rfl, -⟩ := hq
    · exact .passing (p := 14#5) rfl (by decide) hr.quiet
    · exact .passing (p := 15#5) rfl (by decide) hr.quiet
  | pwUpd => obtain ⟨_, _, _, _, rfl, -⟩ := pwUpd_writes h; exact .passing (p := 16#5) rfl (by decide) hr.quiet
  | fcUpd => obtain ⟨_, _, _, _, rfl, -⟩ := fcUpd_writes h; exact .passing (p := 17#5) rfl (by decide) hr.quiet
  | resUpd => obtain ⟨_, _, _, _, rfl, -⟩ := resUpd_writes h; exact .passing (p := 18#5) rfl (by decide) hr.quiet
  | persist i hi =>
    obtain ⟨-, rfl⟩ | ⟨_, _, _, hpressed, rfl, -⟩ := persist_writes hi h
    · exact ⟨hr.quiet, fun _ _ => rfl⟩
    · exact ⟨hr.quiet, fun _ hm => absurd hm hpressed⟩
  | ledOut =>
    obtain ⟨_, _, rfl⟩ := ledOut_writes h
    exact ⟨hr.quiet, fun _ => hr.released (.inl hp)⟩
  | resetLoad =>
    obtain ⟨_, _, _, _, rfl, -⟩ := resetLoad_writes h
    exact ⟨hr.quiet, fun _ _ => rfl⟩

/-- Settles O57: nothing stands invoked after the event, so the sequencer's operation runs. -/
theorem stepKeepsMasksReleased : Obligations.StepKeepsMasksReleased := by
  intro s t _ hr h
  obtain ⟨u, i, harr, hexec, hrun⟩ := step_runs h
  have hu := arrive_keeps_released hr harr
  obtain ⟨-, hseq⟩ | ⟨hreq, -, -⟩ := hrun
  · exact sequencer_keeps_released hu hseq hexec
  · exact absurd (Option.isNone_iff_eq_none.1 (Bool.and_eq_true_iff.1 hu.quiet).1) hreq

/-- Settles O55: `CFG_REF` is within the constraints. -/
theorem resetIsSafe : Obligations.ResetIsSafe :=
  ⟨resetWith_safe ref_wf, resetWith_released Config.ref⟩

/-- Settles O42: each value stands in the definition of the reset state (R33). -/
theorem resetHoldsTheStatedValues : Obligations.ResetHoldsTheStatedValues := by
  rintro c s rfl
  simp [State.resetWith]

end Sys2Proof.Machine
end

section
/-! Outputs are never read back (R30, R31, R35): every operation, run with the outputs forgotten, does the same to what
is not forgotten. -/

namespace Sys2Proof.Machine

variable {s u : State}

/-! ## The forgotten state holds every register but the outputs -/

@[simp] theorem forgetOutputs_cfg (s : State) : (forgetOutputs s).cfg = s.cfg := rfl
@[simp] theorem forgetOutputs_x (s : State) : (forgetOutputs s).x = s.x := rfl
@[simp] theorem forgetOutputs_synth (s : State) : (forgetOutputs s).synth = s.synth := rfl
@[simp] theorem forgetOutputs_tuning (s : State) : (forgetOutputs s).tuning = s.tuning := rfl
@[simp] theorem forgetOutputs_flags (s : State) : (forgetOutputs s).flags = s.flags := rfl
@[simp] theorem forgetOutputs_inputs (s : State) : (forgetOutputs s).inputs = s.inputs := rfl

/-- A register write is an output only: it leaves the pins idle, as it found them (R120, R35). -/
theorem forget_afterStore (a : ChipAddr) (d : Byte) (h : driverIdle s = true) :
    forgetOutputs (afterStore a d s) = forgetOutputs s := by
  obtain ⟨hcs, hale⟩ : s.pins.csN = true ∧ s.pins.ale = !s.cfg.aleActive := by simpa [driverIdle] using h
  simp [forgetOutputs, afterStore, chipWrite, hcs, hale]

/-! ## Updates that do not see the outputs -/

/-- `f` does the same to the registers, with the outputs forgotten before it. -/
def BlindUpdate (f : State → State) : Prop := ∀ s, forgetOutputs (f (forgetOutputs s)) = forgetOutputs (f s)

theorem BlindUpdate.comp {f g : State → State} (hf : BlindUpdate f) (hg : BlindUpdate g) :
    BlindUpdate fun s => f (g s) := fun s => by
  rw [← hf, hg, hf]

/-- A branch on something that is no output. -/
theorem BlindUpdate.ite {c : State → Prop} [DecidablePred c] {f g : State → State}
    (hc : ∀ s, c (forgetOutputs s) ↔ c s) (hf : BlindUpdate f) (hg : BlindUpdate g) :
    BlindUpdate fun s => if c s then f s else g s := by
  intro s
  by_cases h : c s
  · simpa only [hc, h, if_true] using hf s
  · simpa only [hc, h, if_false] using hg s

/-- A parameter that is no output. -/
theorem BlindUpdate.arg {α : Type} {f : α → State → State} {v : State → α} (hv : ∀ s, v (forgetOutputs s) = v s)
    (hf : ∀ a, BlindUpdate (f a)) : BlindUpdate fun s => f (v s) s := fun s => by
  simpa only [hv] using hf (v s) s

theorem blindUpdate_id : BlindUpdate fun s => s := fun _ => rfl

/-! ## Operations that do not see the outputs -/

/-- `f` does the same, up to the outputs, with the outputs forgotten before it. -/
def Blind (f : State → Res State) : Prop :=
  ∀ s, onNext forgetOutputs (f (forgetOutputs s)) = onNext forgetOutputs (f s)

/-- States that differ in outputs only go the same way. -/
theorem Blind.congr {f : State → Res State} (hf : Blind f) (h : forgetOutputs s = forgetOutputs u) :
    onNext forgetOutputs (f s) = onNext forgetOutputs (f u) := by
  rw [← hf s, ← hf u, h]

theorem BlindUpdate.next {f : State → State} (h : BlindUpdate f) : Blind fun s => .next (f s) :=
  fun s => congrArg Host.Outcome.next (h s)

/-- An update of registers before the operation. -/
theorem Blind.comp {f : State → Res State} {g : State → State} (hf : Blind f) (hg : BlindUpdate g) :
    Blind fun s => f (g s) := fun s => hf.congr (hg s)

/-- A blind operation may as well go on from an outcome with its outputs forgotten. -/
theorem onNext_andThen {g : State → Res State} (hg : Blind g) (o : Res State) :
    onNext forgetOutputs (andThen (onNext forgetOutputs o) g) = onNext forgetOutputs (andThen o g) := by
  cases o with
  | next v => exact hg v
  | fault r => rfl
  | refused r => rfl

/-- One operation after the other. -/
theorem Blind.andThen {f g : State → Res State} (hf : Blind f) (hg : Blind g) :
    Blind fun s => Machine.andThen (f s) g := fun s => by
  rw [← onNext_andThen hg (f s), ← hf s, onNext_andThen hg]

theorem Blind.ite {c : State → Prop} [DecidablePred c] {f g : State → Res State}
    (hc : ∀ s, c (forgetOutputs s) ↔ c s) (hf : Blind f) (hg : Blind g) :
    Blind fun s => if c s then f s else g s := by
  intro s
  by_cases h : c s
  · simpa only [hc, h, if_true] using hf s
  · simpa only [hc, h, if_false] using hg s

theorem Blind.arg {α : Type} {f : α → State → Res State} {v : State → α} (hv : ∀ s, v (forgetOutputs s) = v s)
    (hf : ∀ a, Blind (f a)) : Blind fun s => f (v s) s := fun s => by
  simpa only [hv] using hf (v s) s

/-- A result that does not come from the state, handed on. -/
theorem Blind.result {α : Type} (o : Res α) {f : α → State → Res State} (hf : ∀ a, Blind (f a)) :
    Blind fun s => Machine.andThen o fun a => f a s := by
  cases o with
  | next a => exact hf a
  | fault r => exact fun _ => rfl
  | refused r => exact fun _ => rfl

/-! ## Registers -/

theorem blindUpdate_goto (p : Phase) : BlindUpdate (goto p) := fun _ => rfl
theorem blindUpdate_consume (m : SwitchBits) : BlindUpdate (consume m) := fun _ => rfl
theorem blindUpdate_raiseCtrl : BlindUpdate raiseCtrl := fun _ => rfl
theorem blindUpdate_raiseCtrlResync : BlindUpdate raiseCtrlResync := fun _ => rfl

theorem blindUpdate_setWaveform (v : Byte) : BlindUpdate (setWaveform v) :=
  .ite (fun _ => .rfl) blindUpdate_id fun _ => rfl

theorem blindUpdate_setO3 (m : BitVec 2) : BlindUpdate (setO3 m) :=
  .ite (fun _ => .rfl) blindUpdate_id
    ((BlindUpdate.ite (c := fun _ => m = o3None) (fun _ => .rfl) blindUpdate_raiseCtrlResync blindUpdate_raiseCtrl).comp
      (g := fun s => setSynth { s.synth with oscillator3Mode := m } s) fun _ => rfl)

theorem blindUpdate_forceO3 : BlindUpdate forceO3 :=
  .arg (v := fun s => cvBand s.x.aRS) (f := fun b s => match b with | some m => setO3 m s | none => s) (fun _ => rfl)
    fun b => match b with
      | some m => blindUpdate_setO3 m
      | none => blindUpdate_id

theorem blindUpdate_enterTuning : BlindUpdate enterTuning := .ite (fun _ => .rfl) (fun _ => rfl) blindUpdate_id

theorem blindUpdate_toggleTuning : BlindUpdate toggleTuning :=
  (BlindUpdate.ite (c := fun s => s.tuning.mode = true) (fun _ => .rfl) blindUpdate_enterTuning fun _ => rfl).comp
    (g := fun s => setTuning { s.tuning with mode := !s.tuning.mode }
      (consume (switchBit .filter ||| switchBit .ringsync) s)) fun _ => rfl

/-! ## Register writes and samples -/

theorem blind_id : Blind fun s => .next s := blindUpdate_id.next
theorem blind_goto (p : Phase) : Blind fun s => .next (goto p s) := (blindUpdate_goto p).next

theorem blind_chipStore (a : ChipAddr) (d : Byte) : Blind (chipStore a d) := by
  intro s
  by_cases h : driverIdle s = true
  · rw [chipStore_idle a d s h, chipStore_idle a d (forgetOutputs s) h]
    exact congrArg Host.Outcome.next ((forget_afterStore a d h).trans (forget_afterStore a d h).symm)
  · have h : driverIdle s = false := by simpa using h
    rw [chipStore_busy a d s h, chipStore_busy a d (forgetOutputs s) h]

theorem blind_chipStore2 (a : ChipAddr) (d : Byte) (b : ChipAddr) (e : Byte) : Blind (chipStore2 a d b e) :=
  (blind_chipStore a d).andThen (blind_chipStore b e)

theorem blind_readAnalog {f : State × Sample → Res State} (hf : ∀ v, Blind fun s => f (s, v)) :
    Blind fun s => andThen (readAnalog s) f := by
  intro s
  show onNext forgetOutputs (andThen (readAnalog (forgetOutputs s)) f) = onNext forgetOutputs (andThen (readAnalog s) f)
  by_cases hs : s.mux.settled = true
  · match ha : s.inputs.adc with
    | [] =>
      rw [readAnalog_free s hs ha, readAnalog_free (forgetOutputs s) hs ha]
      exact (hf _).congr rfl
    | .sample v :: rest =>
      rw [readAnalog_scripted s v rest hs ha, readAnalog_scripted (forgetOutputs s) v rest hs ha]
      exact (hf v).congr rfl
    | .never :: rest => rw [readAnalog_never s rest hs ha, readAnalog_never (forgetOutputs s) rest hs ha]
  · have hs : s.mux.settled = false := by simpa using hs
    rw [readAnalog_unsettled s hs, readAnalog_unsettled (forgetOutputs s) hs]

theorem blind_scanInputs (is : List Input) : Blind (scanInputs is) := by
  induction is with
  | nil => exact blind_id
  | cons i rest ih =>
    have store : ∀ v, Blind fun s => scanInputs rest (setX (inputSet s.x i v) s) := fun v => ih.comp fun _ => rfl
    intro s
    rw [scanInputs, scanInputs]
    exact (blind_readAnalog (f := fun r => scanInputs rest (setX (inputSet r.1.x i r.2) r.1)) store).comp
      (g := fun s => selectChannel (inputGet s.cfg.ch i) s) (fun _ => rfl) s

/-! ## The operations -/

theorem blind_toggle {i : Instr} (hi : savesOffset i = true) : Blind (exec i) := by
  have toggles (c : State → Bool) (hc : ∀ s, c (forgetOutputs s) = c s) : Blind fun s => toggleIf (c s) s :=
    (BlindUpdate.comp (blindUpdate_goto 4)
      (.ite (fun s => by rw [hc s]) blindUpdate_toggleTuning blindUpdate_id)).next
  cases i <;> cases hi
  all_goals exact toggles _ fun _ => rfl

theorem blind_muteGate : Blind muteGate :=
  .ite (fun _ => .rfl) blind_id
    ((Blind.arg (v := fun s => s.cfg.addr.sus)
      (f := fun a s => andThen (chipStore a susOff s) fun t => .next (raiseCtrl t)) (fun _ => rfl) fun a =>
        (blind_chipStore a susOff).andThen blindUpdate_raiseCtrl.next).comp
      (g := fun s => setSynth { s.synth with gateOff := true } s) fun _ => rfl)

theorem blind_writeControl : Blind writeControl := by
  intro s
  simp only [writeControl, forgetOutputs_cfg, forgetOutputs_synth, forgetOutputs_flags]
  by_cases h : s.flags.ctrlResync = true
  · simp only [h, if_true]
    exact blind_chipStore2 _ _ _ _ s
  · simp only [h]
    exact blind_chipStore _ _ s

theorem blind_writeFreq (k : FreqCh) : Blind (writeFreq k) := by
  intro s
  simp only [writeFreq, forgetOutputs_cfg, forgetOutputs_x, forgetOutputs_tuning]
  exact Blind.result (tableLookup s.cfg _ _)
    (f := fun v u =>
      andThen (chipStore2 (freqLowAddr s.cfg k) (freqLow v) (freqHighAddr s.cfg k) (freqHigh v) u) fun t =>
        .next (t |> setSynth (withFreqCache t.synth k (inputGet s.x (freqInput k)))))
    (fun v => (blind_chipStore2 _ _ _ _).andThen (BlindUpdate.next fun _ => rfl)) s

theorem blindUpdate_afterFreq (k : FreqCh) : BlindUpdate (afterFreq k) := fun _ => by cases k <;> rfl

theorem blind_command {i : Instr} (hi : ∀ c, (commandStore c i).isSome = true) : Blind (exec i) := by
  intro s
  obtain ⟨⟨a, d⟩, had⟩ := Option.isSome_iff_exists.1 (hi s.cfg)
  rw [exec_command had, exec_command (s := forgetOutputs s) had]
  exact (blind_chipStore a d).andThen (BlindUpdate.next (f := endCall) fun _ => rfl) s

/-- A phase that acts under a condition and then goes on. -/
theorem blind_phase {c : State → Prop} [DecidablePred c] {f : State → State} (p : Phase)
    (hc : ∀ s, c (forgetOutputs s) ↔ c s) (hf : BlindUpdate f) :
    Blind fun s => .next (goto p (if c s then f s else s)) :=
  ((blindUpdate_goto p).comp (.ite hc hf blindUpdate_id)).next

/-- The same for a phase whose action can stop. -/
theorem blind_phaseRes {c : State → Prop} [DecidablePred c] {f : State → Res State} (p : Phase)
    (hc : ∀ s, c (forgetOutputs s) ↔ c s) (hf : Blind f) :
    Blind fun s => andThen (if c s then f s else .next s) fun t => .next (goto p t) :=
  (Blind.ite hc hf blind_id).andThen (blind_goto p)

theorem blind_gateRestore : Blind (exec .gateRestore) := by
  have restore :
      Blind fun u => andThen (chipStore u.cfg.addr.sus u.cfg.susFull u) fun t => .next (raiseCtrlResync t) := by
    intro u
    simp only [forgetOutputs_cfg]
    exact (blind_chipStore _ _).andThen blindUpdate_raiseCtrlResync.next u
  exact blind_phaseRes 9 (fun _ => .rfl)
    (restore.comp (g := fun s => setSynth { s.synth with gateOff := false } (consume (switchBit .waveform) s))
      fun _ => rfl)

theorem blind_fmodeWr : Blind (exec .fmodeWr) := by
  refine blind_phaseRes 14 (fun _ => .rfl) fun s => ?_
  simp only [forgetOutputs_cfg, forgetOutputs_synth]
  exact (blind_chipStore _ _).andThen (BlindUpdate.next (f := clearFilter) fun _ => rfl) s

theorem blind_pwUpd : Blind (exec .pwUpd) := by
  refine blind_phaseRes 16 (c := fun s => (!s.flags.cachesValid || pulseWidthOf s.x.aPW != s.synth.pulseWidth) = true)
    (fun _ => .rfl) fun s => ?_
  simp only [forgetOutputs_cfg, forgetOutputs_x]
  exact (blind_chipStore2 _ _ _ _).andThen (BlindUpdate.next fun _ => rfl) s

theorem blind_fcUpd : Blind (exec .fcUpd) := by
  refine blind_phaseRes 17 (c := fun s => (!s.flags.cachesValid || cutoffOf s.x.aFC != s.synth.filterCutoff) = true)
    (fun _ => .rfl) fun s => ?_
  simp only [forgetOutputs_cfg, forgetOutputs_x]
  exact (blind_chipStore2 _ _ _ _).andThen (BlindUpdate.next fun _ => rfl) s

theorem blind_resUpd : Blind (exec .resUpd) := by
  refine Blind.andThen (Blind.ite
    (c := fun s => (!s.flags.cachesValid || resonanceOf s.x.aRES != s.synth.resonance) = true) (fun _ => .rfl)
    (fun s => ?_) blind_id) (BlindUpdate.next fun _ => rfl)
  simp only [forgetOutputs_cfg, forgetOutputs_x]
  exact (blind_chipStore _ _).andThen (BlindUpdate.next fun _ => rfl) s

theorem blind_resetLoad : Blind (exec .resetLoad) := by
  refine BlindUpdate.next fun s => ?_
  simp only [clearRegisters_eq, setSynth, setTuning, setIrq, goto_eq]
  rfl

/-- No operation reads what only leaves the block. -/
theorem exec_blind (i : Instr) : Blind (exec i) := by
  cases i with
  | muxSel ch => exact BlindUpdate.next fun _ => rfl
  | muxRda => exact blind_readAnalog fun v => BlindUpdate.next fun _ => rfl
  | muxRdd ch =>
    exact (blind_readAnalog (f := fun r => .next (endCallWith ((BitVec.ofBool (pressed r.2)).setWidth 16) r.1)) fun v =>
      BlindUpdate.next fun _ => rfl).comp (g := selectChannel ch) fun _ => rfl
  | debFresh x => exact BlindUpdate.next fun _ => rfl
  | debConsume m => exact BlindUpdate.next fun _ => rfl
  | ftXlt raw off =>
    exact Blind.arg (v := fun s => s.cfg)
      (f := fun c s => andThen (tableLookup c raw off) fun v => .next (endCallWith v s)) (fun _ => rfl) fun c =>
        .result (tableLookup c raw off) fun v => BlindUpdate.next fun _ => rfl
  | tick => exact BlindUpdate.next (.ite (fun _ => .rfl) (fun _ => rfl) blindUpdate_id)
  | muxScan => exact (blind_scanInputs inputOrder).andThen (blind_goto 2)
  | debLoad => exact BlindUpdate.next fun _ => rfl
  | tuneToggle => exact blind_toggle rfl
  | tuneToggleA => exact blind_toggle rfl
  | tuneToggleB => exact blind_toggle rfl
  | tuneToggleM => exact blind_toggle rfl
  | tuneDec => exact BlindUpdate.next fun _ => rfl
  | tuneInc => exact BlindUpdate.next fun _ => rfl
  | gateMute => exact blind_phaseRes 6 (fun _ => .rfl) (blind_muteGate.comp (blindUpdate_consume _))
  | filtNext => exact blind_phase 7 (fun _ => .rfl) fun _ => rfl
  | wfDefault => exact blind_phase 8 (fun _ => .rfl) (blindUpdate_setWaveform wfPulse)
  | gateRestore => exact blind_gateRestore
  | wfNext =>
    exact blind_phase 9 (fun _ => .rfl) (.arg (v := fun s => nextWaveform s.synth.waveform)
      (f := fun w s => setWaveform w (consume (switchBit .waveform) s)) (fun _ => rfl)
      fun w => (blindUpdate_setWaveform w).comp (blindUpdate_consume _))
  | wfPot =>
    exact blind_phase 10 (fun _ => .rfl)
      (.arg (v := fun s => potBand s.cfg s.x.aWF) (f := setWaveform) (fun _ => rfl) blindUpdate_setWaveform)
  | o3Next =>
    exact blind_phase 11 (fun _ => .rfl) (.arg (v := fun s => nextO3 s.synth.oscillator3Mode)
      (f := fun m s => setO3 m (consume (switchBit .ringsync) s)) (fun _ => rfl)
      fun m => (blindUpdate_setO3 m).comp (blindUpdate_consume _))
  | o3Cv =>
    exact ((blindUpdate_goto 12).comp
      (.ite (c := fun s => s.tuning.mode = true) (fun _ => .rfl) blindUpdate_id blindUpdate_forceO3)).next
  | ctrlWr =>
    exact blind_phaseRes 13 (fun _ => .rfl)
      (blind_writeControl.andThen (BlindUpdate.next (f := clearCtrl) fun _ => rfl))
  | fmodeWr => exact blind_fmodeWr
  | freqUpd k =>
    exact (Blind.ite (c := fun s => freqStale k s = true) (fun _ => .rfl) (blind_writeFreq k) blind_id).andThen
      (blindUpdate_afterFreq k).next
  | pwUpd => exact blind_pwUpd
  | fcUpd => exact blind_fcUpd
  | resUpd => exact blind_resUpd
  | nvPersist =>
    exact ((blindUpdate_goto 19).comp (.ite (c := fun s => s.switchMask ≠ 0#3) (fun _ => .rfl) (f := persistSettings)
      (g := releaseAll) (fun _ => rfl) fun _ => rfl)).next
  | debRelease =>
    exact ((blindUpdate_goto 19).comp (.ite (c := fun s => s.switchMask = 0#3) (fun _ => .rfl) (f := releaseAll)
      (g := persistSettings) (fun _ => rfl) fun _ => rfl)).next
  | ledOut => exact BlindUpdate.next fun _ => rfl
  | resetLoad => exact blind_resetLoad
  | _ => exact blind_command fun _ => rfl

/-! ## The step -/

theorem blind_arrive : Blind arrive := by
  intro s
  simp only [arrive, forgetOutputs_inputs]
  cases s.inputs.events with
  | nil => rfl
  | cons e es => cases e <;> rfl

theorem blind_runNext : Blind runNext :=
  .arg (v := fetchCode) (f := fun o s => andThen o fun k => andThen (decodeCode s.cfg k) fun i => exec i s)
    (fun _ => rfl) fun o => .result o fun k =>
      .arg (v := fun s => decodeCode s.cfg k) (f := fun d s => andThen d fun i => exec i s)
      (fun _ => rfl) fun d => .result d exec_blind

/-- Settles O54: what arrives and what then runs are both blind to the outputs. -/
theorem outputsAreNeverReadBack : Obligations.OutputsAreNeverReadBack :=
  blind_arrive.andThen blind_runNext

end Sys2Proof.Machine
end

section
/-! Where the operations store (R43, R46): the chip registers at an operation's targets, the settings byte at P18, the
offset word at P3, and nothing else. -/

namespace Sys2Proof.Machine

variable {s t : State}

/-! ## Stores that reach listed chip registers only -/

/-- From memory `m` to `m'` at most the chip registers listed in `as` are written; the store is untouched. -/
structure ChipStoredWithin (as : List ChipAddr) (m m' : Memory) : Prop where
  chip : ∀ a, a ∉ as → chipRead m' a = chipRead m a
  nvBytes : m'.nvBytes = m.nvBytes
  nvWords : m'.nvWords = m.nvWords

theorem ChipStoredWithin.refl (as : List ChipAddr) (m : Memory) : ChipStoredWithin as m m :=
  ⟨fun _ _ => rfl, rfl, rfl⟩

theorem ChipStoredWithin.chipWrite {as : List ChipAddr} {m m' : Memory} (h : ChipStoredWithin as m m') {a : ChipAddr}
    (ha : a ∈ as) (d : Byte) : ChipStoredWithin as m (chipWrite m' a d) where
  chip b hb := by
    have hne : b ≠ a := fun heq => hb (heq ▸ ha)
    rw [chipRead_chipWrite, if_neg hne, h.chip b hb]
  nvBytes := h.nvBytes
  nvWords := h.nvWords

/-- If the outcome is a next state, its memory differs from `m` at the chip registers listed in `as` only. -/
def StoresWithin (as : List ChipAddr) (m : Memory) (o : Res State) : Prop :=
  ∀ t, o = .next t → ChipStoredWithin as m t.mem

section outcomes
variable {as : List ChipAddr} {m : Memory}

theorem storesWithin_next (h : s.mem = m) : StoresWithin as m (.next s) := by
  rintro _ ⟨⟩
  exact h ▸ .refl as _

theorem storesWithin_ite {p : Prop} [Decidable p] {o e : Res State} (ho : StoresWithin as m o)
    (he : StoresWithin as m e) : StoresWithin as m (if p then o else e) := by
  split <;> assumption

/-- What precedes a store and yields no state cannot write. -/
theorem storesWithin_andThen {α : Type} {o : Res α} {f : α → Res State} (hf : ∀ v, StoresWithin as m (f v)) :
    StoresWithin as m (andThen o f) := by
  intro t h
  obtain ⟨v, -, hv⟩ := (andThen_eq_next o f t).1 h
  exact hf v t hv

/-- What follows a store and leaves memory alone cannot write. -/
theorem storesWithin_followed {o : Res State} {f : State → State} (ho : StoresWithin as m o)
    (hf : ∀ u, (f u).mem = u.mem) : StoresWithin as m (andThen o fun u => .next (f u)) := by
  intro t h
  obtain ⟨u, hu, hnext⟩ := (andThen_eq_next _ _ _).1 h
  cases hnext
  exact (hf u).symm ▸ ho u hu

theorem storesWithin_chipStore {a : ChipAddr} (ha : a ∈ as) (hm : s.mem = m) (d : Byte) :
    StoresWithin as m (chipStore a d s) := by
  subst hm
  intro t h
  obtain ⟨-, rfl⟩ := (chipStore_eq_next a d s t).1 h
  exact (ChipStoredWithin.refl as s.mem).chipWrite ha d

theorem storesWithin_chipStore2 {a b : ChipAddr} (ha : a ∈ as) (hb : b ∈ as) (hm : s.mem = m) (d e : Byte) :
    StoresWithin as m (chipStore2 a d b e s) := by
  subst hm
  intro t h
  obtain ⟨-, rfl⟩ := (chipStore2_eq_next a d b e s t).1 h
  exact ((ChipStoredWithin.refl as s.mem).chipWrite ha d).chipWrite hb e

end outcomes

/-! ## The operations that write to the chip -/

theorem commandStore_target {c : Config} {i : Instr} {a : ChipAddr} {d : Byte} (h : commandStore c i = some (a, d)) :
    chipTargets c i = [a] := by
  cases i <;> cases h <;> rfl

theorem command_storesWithin {i : Instr} {a : ChipAddr} {d : Byte} (h : commandStore s.cfg i = some (a, d)) :
    StoresWithin (chipTargets s.cfg i) s.mem (exec i s) := by
  rw [exec_command h, commandStore_target h]
  exact storesWithin_followed (storesWithin_chipStore (by simp) rfl d) fun _ => rfl

/-- Muting writes the sustain register at most, and only if the gate was on (R134). -/
theorem muteGate_storesWithin (s : State) : StoresWithin [s.cfg.addr.sus] s.mem (muteGate s) :=
  storesWithin_ite (storesWithin_next rfl)
    (storesWithin_followed (storesWithin_chipStore (by simp) (by simp) susOff) fun _ => rfl)

theorem gateMute_storesWithin (s : State) : StoresWithin [s.cfg.addr.sus] s.mem (exec .gateMute s) := by
  have hmute := muteGate_storesWithin (consume (switchBit .waveform ||| switchBit .ringsync) s)
  exact storesWithin_followed (storesWithin_ite hmute (storesWithin_next rfl)) fun _ => rfl

/-- Both control writes of P12 go to one register, the re-arm byte too (R150). -/
theorem writeControl_storesWithin (s : State) : StoresWithin [s.cfg.addr.ctrl] s.mem (writeControl s) :=
  storesWithin_ite (storesWithin_chipStore2 (by simp) (by simp) rfl _ _) (storesWithin_chipStore (by simp) rfl _)

/-- The shape of P8's restore and of P12 to P17: if an update is owed, stores and their bookkeeping; then the next
phase. -/
theorem storesWithin_ifOwed {as : List ChipAddr} {p : Prop} [Decidable p] {o : Res State} {f g : State → State}
    (ho : StoresWithin as s.mem o) (hf : ∀ u, (f u).mem = u.mem) (hg : ∀ u, (g u).mem = u.mem) :
    StoresWithin as s.mem
      (andThen (if p then andThen o fun u => .next (f u) else .next s) fun u => .next (g u)) :=
  storesWithin_followed (storesWithin_ite (storesWithin_followed ho hf) (storesWithin_next rfl)) hg

theorem gateRestore_storesWithin (s : State) : StoresWithin [s.cfg.addr.sus] s.mem (exec .gateRestore s) :=
  storesWithin_ifOwed (storesWithin_chipStore (by simp [consume_eq]) (by simp [consume_eq]) _)
    (fun _ => rfl) fun _ => rfl

theorem ctrlWr_storesWithin (s : State) : StoresWithin [s.cfg.addr.ctrl] s.mem (exec .ctrlWr s) :=
  storesWithin_ifOwed (writeControl_storesWithin s) (fun _ => rfl) fun _ => rfl

theorem fmodeWr_storesWithin (s : State) : StoresWithin [s.cfg.addr.mode] s.mem (exec .fmodeWr s) :=
  storesWithin_ifOwed (storesWithin_chipStore (by simp) rfl _) (fun _ => rfl) fun _ => rfl

theorem freqUpd_storesWithin (k : FreqCh) (s : State) :
    StoresWithin [freqLowAddr s.cfg k, freqHighAddr s.cfg k] s.mem (exec (.freqUpd k) s) := by
  have hwrite : StoresWithin [freqLowAddr s.cfg k, freqHighAddr s.cfg k] s.mem (writeFreq k s) :=
    storesWithin_andThen fun _ =>
      storesWithin_followed (storesWithin_chipStore2 (by simp) (by simp) rfl _ _) fun _ => rfl
  exact storesWithin_followed (storesWithin_ite hwrite (storesWithin_next rfl)) fun _ => by cases k <;> rfl

theorem pwUpd_storesWithin (s : State) :
    StoresWithin [s.cfg.addr.pwlo, s.cfg.addr.pwhi] s.mem (exec .pwUpd s) := by
  rw [exec, execPwUpd]
  generalize pulseWidthOf s.x.aPW = v
  exact storesWithin_ifOwed (storesWithin_chipStore2 (by simp) (by simp) rfl _ _) (fun _ => rfl) fun _ => rfl

theorem fcUpd_storesWithin (s : State) :
    StoresWithin [s.cfg.addr.fclo, s.cfg.addr.fchi] s.mem (exec .fcUpd s) := by
  rw [exec, execFcUpd]
  generalize cutoffOf s.x.aFC = v
  exact storesWithin_ifOwed (storesWithin_chipStore2 (by simp) (by simp) rfl _ _) (fun _ => rfl) fun _ => rfl

theorem resUpd_storesWithin (s : State) : StoresWithin [s.cfg.addr.res] s.mem (exec .resUpd s) :=
  storesWithin_ifOwed (storesWithin_chipStore (by simp) rfl _) (fun _ => rfl) fun _ => rfl

/-! ## The operations that write to the store -/

theorem enterTuning_mem (s : State) : (enterTuning s).mem = s.mem := by
  obtain ⟨_, _, henter, -⟩ := enterTuning_writes s
  rw [henter]

theorem leaveTuning_mem (s : State) :
    (leaveTuning s).mem = nvWriteWord s.mem s.cfg.nvTuning (s.tuning.offset.setWidth 16) := by
  rw [leaveTuning, saveWordMasked_eq]

/-- Entering tuning mode saves nothing, leaving it saves the offset word (R131). -/
theorem toggleTuning_saves (s : State) :
    (toggleTuning s).mem = s.mem ∨ ∃ w, (toggleTuning s).mem = nvWriteWord s.mem s.cfg.nvTuning w := by
  unfold toggleTuning
  dsimp only
  split
  · exact .inl (enterTuning_mem _)
  · exact .inr ⟨_, leaveTuning_mem _⟩

/-- P3 saves at most the offset word (R131). -/
theorem toggle_saves {i : Instr} (hi : savesOffset i = true) (h : exec i s = .next t) :
    t.mem = s.mem ∨ ∃ w, t.mem = nvWriteWord s.mem s.cfg.nvTuning w := by
  obtain ⟨cond, hcond⟩ := exec_toggle hi s
  rw [hcond] at h
  cases h
  cases cond with
  | true => exact toggleTuning_saves s
  | false => exact .inl rfl

/-- P18 saves at most the settings byte (R103, R156). -/
theorem persist_saves {i : Instr} (hi : savesSettings i = true) (h : exec i s = .next t) :
    t.mem = s.mem ∨ ∃ b, t.mem = nvWriteByte s.mem s.cfg.nvSettings b := by
  rw [exec_persist hi] at h
  cases h
  split
  · exact .inl rfl
  · rw [persistSettings, saveByteMasked_eq]
    exact .inr ⟨_, rfl⟩

theorem nvReadByte_nvWriteByte_of_ne {m : Memory} {a n : Nat} {b : Byte} (h : n ≠ a) :
    nvReadByte (nvWriteByte m a b) n = nvReadByte m n := by
  unfold nvReadByte nvWriteByte
  split <;> simp [cellsRead_insert, cellsRead_erase, h]

theorem nvReadWord_nvWriteWord_of_ne {m : Memory} {a n : Nat} {w : BitVec 16} (h : n ≠ a) :
    nvReadWord (nvWriteWord m a w) n = nvReadWord m n := by
  simp [nvReadWord, nvWriteWord, cellsRead_insert, h]

/-! ## Every operation -/

/-- An operation with no chip target and nothing to save leaves memory as it is. -/
theorem exec_keeps_mem {i : Instr} (hchip : chipTargets s.cfg i = []) (hset : savesSettings i = false)
    (hoff : savesOffset i = false) (h : exec i s = .next t) : t.mem = s.mem := by
  cases i with
  | muxSel ch =>
    rw [exec, execMuxSel, selectChannel_eq] at h
    cases h; rfl
  | muxRda =>
    obtain ⟨⟨u, v⟩, hread, hend⟩ := (andThen_eq_next _ _ _).1 h
    obtain ⟨_, _, _, rfl⟩ := readAnalog_writes hread
    cases hend; rfl
  | muxRdd ch =>
    rw [exec, execMuxRdd, andThen_eq_next, selectChannel_eq] at h
    obtain ⟨⟨u, v⟩, hread, hend⟩ := h
    obtain ⟨_, _, _, rfl⟩ := readAnalog_writes hread
    cases hend; rfl
  | debFresh x => cases h; rfl
  | debConsume m => cases h; rfl
  | ftXlt raw off =>
    obtain ⟨v, -, hend⟩ := (andThen_eq_next _ _ _).1 h
    cases hend; rfl
  | tick => obtain rfl | rfl := tick_writes h <;> rfl
  | muxScan => obtain ⟨_, _, _, _, _, rfl⟩ := muxScan_writes h; rfl
  | debLoad => obtain ⟨_, rfl⟩ := debLoad_writes h; rfl
  | tuneDec => obtain ⟨_, _, rfl, -⟩ := tuneDec_writes h; rfl
  | tuneInc => obtain ⟨_, _, rfl, -⟩ := tuneInc_writes h; rfl
  | filtNext => obtain ⟨_, _, _, rfl, -⟩ := filtNext_writes h; rfl
  | wfDefault => obtain ⟨_, _, rfl, -⟩ := wfDefault_writes h; rfl
  | wfNext => obtain ⟨_, _, _, rfl, -⟩ := wfNext_writes h; rfl
  | wfPot => obtain ⟨_, _, rfl, -⟩ := wfPot_writes h; rfl
  | o3Next => obtain ⟨_, _, _, _, rfl, -⟩ := o3Next_writes h; rfl
  | o3Cv => obtain ⟨_, _, _, rfl, -⟩ := o3Cv_writes h; rfl
  | ledOut => obtain ⟨_, _, rfl⟩ := ledOut_writes h; rfl
  | resetLoad => obtain ⟨_, _, _, _, rfl, -⟩ := resetLoad_writes h; rfl
  | freqUpd k => cases k <;> cases hchip
  | tuneToggle | tuneToggleA | tuneToggleB | tuneToggleM => cases hoff
  | nvPersist | debRelease => cases hset
  | _ => cases hchip

theorem chipTargets_freqUpd (c : Config) (k : FreqCh) :
    chipTargets c (.freqUpd k) = [freqLowAddr c k, freqHighAddr c k] := by
  cases k <;> rfl

/-- An operation that saves nothing writes at its chip targets only (R43, R126). -/
theorem exec_storesWithin {i : Instr} (s : State) (hset : savesSettings i = false) (hoff : savesOffset i = false) :
    StoresWithin (chipTargets s.cfg i) s.mem (exec i s) := by
  cases hcmd : commandStore s.cfg i with
  | some store => exact command_storesWithin hcmd
  | none =>
    by_cases hchip : chipTargets s.cfg i = []
    · exact fun t h => exec_keeps_mem hchip hset hoff h ▸ .refl _ _
    · cases i with
      | gateMute => exact gateMute_storesWithin s
      | gateRestore => exact gateRestore_storesWithin s
      | ctrlWr => exact ctrlWr_storesWithin s
      | fmodeWr => exact fmodeWr_storesWithin s
      | freqUpd k => exact chipTargets_freqUpd s.cfg k ▸ freqUpd_storesWithin k s
      | pwUpd => exact pwUpd_storesWithin s
      | fcUpd => exact fcUpd_storesWithin s
      | resUpd => exact resUpd_storesWithin s
      | drvWr | cmdF1lo | cmdF1hi | cmdPwlo | cmdPwhi | cmdCtrl | cmdSus | cmdF2lo | cmdF2hi | cmdF3lo | cmdF3hi
      | cmdFclo | cmdFchi | cmdRes | cmdMode => cases hcmd
      | _ => exact absurd rfl hchip

/-- Settles O49: an operation saves at P18, or at P3, or nothing, and only the last may write to the chip. -/
theorem operationsStoreOnlyWhereTheyMay : Obligations.OperationsStoreOnlyWhereTheyMay := by
  intro i s t h
  cases hset : savesSettings i with
  | true =>
    obtain hmem | ⟨b, hmem⟩ := persist_saves hset h <;> rw [hmem]
    · exact ⟨fun _ _ => rfl, fun _ _ => rfl, fun _ _ => rfl⟩
    · exact ⟨fun _ _ => rfl, fun n hn => nvReadByte_nvWriteByte_of_ne (hn rfl), fun _ _ => rfl⟩
  | false =>
    cases hoff : savesOffset i with
    | true =>
      obtain hmem | ⟨w, hmem⟩ := toggle_saves hoff h <;> rw [hmem]
      · exact ⟨fun _ _ => rfl, fun _ _ => rfl, fun _ _ => rfl⟩
      · exact ⟨fun _ _ => rfl, fun _ _ => rfl, fun n hn => nvReadWord_nvWriteWord_of_ne (hn rfl)⟩
    | false =>
      have hstored := exec_storesWithin s hset hoff t h
      exact ⟨hstored.chip, fun _ _ => by simp only [nvReadByte, hstored.nvBytes],
        fun _ _ => by simp only [nvReadWord, hstored.nvWords]⟩

/-! ## The block by itself -/

theorem chipTargets_of_savesOffset (c : Config) {i : Instr} (h : savesOffset i = true) : chipTargets c i = [] := by
  cases i <;> cases h <;> rfl

theorem chipTargets_of_savesSettings (c : Config) {i : Instr} (h : savesSettings i = true) : chipTargets c i = [] := by
  cases i <;> cases h <;> rfl

theorem freqAddrs_are_chipAddrs (c : Config) (k : FreqCh) :
    (∃ r, freqLowAddr c k = chipAddrOf c r) ∧ ∃ r, freqHighAddr c k = chipAddrOf c r := by
  cases k with
  | one => exact ⟨⟨.f1lo, rfl⟩, ⟨.f1hi, rfl⟩⟩
  | two => exact ⟨⟨.f2lo, rfl⟩, ⟨.f2hi, rfl⟩⟩
  | three => exact ⟨⟨.f3lo, rfl⟩, ⟨.f3hi, rfl⟩⟩

/-- The sequencer's operations have their targets among the fourteen addresses (R43). -/
theorem sequencer_targets {p : Phase} {i : Instr} (hrun : SequencerRuns p i) (c : Config) :
    ∀ a ∈ chipTargets c i, ∃ r, a = chipAddrOf c r := by
  cases hrun with
  | toggle i hi => simp [chipTargets_of_savesOffset c hi]
  | persist i hi => simp [chipTargets_of_savesSettings c hi]
  | gateMute | gateRestore => simpa [chipTargets] using ⟨.sus, rfl⟩
  | ctrlWr => simpa [chipTargets] using ⟨.ctrl, rfl⟩
  | fmodeWr => simpa [chipTargets] using ⟨.mode, rfl⟩
  | freqUpd k => simpa [chipTargets_freqUpd] using freqAddrs_are_chipAddrs c k
  | pwUpd => simpa [chipTargets] using ⟨⟨.pwlo, rfl⟩, ⟨.pwhi, rfl⟩⟩
  | fcUpd => simpa [chipTargets] using ⟨⟨.fclo, rfl⟩, ⟨.fchi, rfl⟩⟩
  | resUpd => simpa [chipTargets] using ⟨.res, rfl⟩
  | _ => simp [chipTargets]

theorem request_of_noCalls (h : noCalls s = true) : s.request = none := by
  simp only [noCalls, Bool.and_eq_true, Option.isNone_iff_eq_none] at h
  exact h.1

/-- Settles O50: with nothing invoked a step runs the sequencer's operation, whose targets are among the fourteen. -/
theorem blockWritesOnlyTheFourteenRegisters : Obligations.BlockWritesOnlyTheFourteenRegisters := by
  intro s t a hcalls hreset hother h
  obtain ⟨u, i, harr, hexec, hrun⟩ := step_runs h
  obtain ⟨es, b, rfl, -⟩ := arrive_without_reset harr hreset
  obtain ⟨-, hseq⟩ | ⟨hcalled, -⟩ := hrun
  · have houtside : a ∉ chipTargets s.cfg i := fun ha =>
      have ⟨r, hr⟩ := sequencer_targets hseq s.cfg a ha
      hother r hr
    exact (operationsStoreOnlyWhereTheyMay i _ t hexec).1 a houtside
  · exact absurd (request_of_noCalls hcalls) hcalled

end Sys2Proof.Machine
end

section
/-! Codes (R60 to R64): how a command word comes apart, which row the decoder reads at each address, and that the decoder
gives back every operation the encoder writes. -/

namespace Sys2Proof.Machine

variable {c : Config}

/-! ## Command words -/

@[simp] theorem cmdAddress_cmdWord (a : ChipAddr) (d : Byte) : cmdAddress (cmdWord a d) = a :=
  BitVec.extractLsb'_append_eq_left

@[simp] theorem cmdData_cmdWord (a : ChipAddr) (d : Byte) : cmdData (cmdWord a d) = d :=
  BitVec.extractLsb'_append_eq_right

/-! ## Fields of a data byte -/

section fields
variable (w l : BitVec 4) (b : BitVec 3) (r s g : Bool)

@[simp] theorem append_highNibble : BitVec.extractLsb' (n := 8) 4 4 (w ++ l) = w := BitVec.extractLsb'_append_eq_left
@[simp] theorem append_lowNibble : BitVec.extractLsb' (n := 8) 0 4 (w ++ l) = l := BitVec.extractLsb'_append_eq_right
@[simp] theorem append_highFive : BitVec.extractLsb' (n := 8) 3 5 (0#5 ++ b) = 0#5 := BitVec.extractLsb'_append_eq_left
@[simp] theorem append_lowThree : BitVec.extractLsb' (n := 8) 0 3 (0#5 ++ b) = b := BitVec.extractLsb'_append_eq_right

/-- `wwww0rsg` (R67). -/
@[simp] theorem ctrlFields_parts :
    (ctrlFields w r s g).extractLsb' 4 4 = w ∧ (ctrlFields w r s g)[3] = false ∧ (ctrlFields w r s g)[2] = r
      ∧ (ctrlFields w r s g)[1] = s ∧ (ctrlFields w r s g)[0] = g := by
  revert w r s g; decide

end fields

/-! ## Commands -/

/-- The fourteen addresses differ pairwise, the later row's from the earlier one's: the order `decodeCmd` tests them. -/
theorem laterAddr_ne_earlier (hc : c.wf = true) : c.addr.toList.Pairwise fun earlier later => later ≠ earlier :=
  (wf_distinct c hc).2.1.imp Ne.symm

/-- At a command's own address, with its own data, the decoder reads that command (R63). -/
theorem decodeCmd_of_store {i : Instr} {a : ChipAddr} {d : Byte} (hc : c.wf = true)
    (hi : commandStore c i = some (a, d)) (hdrv : i ≠ .drvWr a d) : decodeCmd c a d = .ok i := by
  have hne := laterAddr_ne_earlier hc
  simp only [ChipMap.toList, List.pairwise_cons, List.forall_mem_cons] at hne
  cases i <;> cases hi
  case drvWr => exact absurd rfl hdrv
  all_goals simp [decodeCmd, hne]

theorem encode_of_store {i : Instr} {a : ChipAddr} {d : Byte} (hi : commandStore c i = some (a, d)) :
    encode c i = if i = .drvWr a d then .call (.drv (cmdWord a d)) else .call (.cmd (cmdWord a d)) := by
  cases i <;> cases hi
  case drvWr => exact (if_pos rfl).symm
  all_goals exact (if_neg nofun).symm

theorem decode_encode_of_store {i : Instr} {a : ChipAddr} {d : Byte} (hc : c.wf = true)
    (hi : commandStore c i = some (a, d)) : decode c (encode c i) = .ok i := by
  rw [encode_of_store hi]
  split
  · next hdrv => simp [decode, decodeCall, hdrv]
  · next hdrv => simpa [decode, decodeCall] using decodeCmd_of_store hc hi hdrv

/-! ## Operations invoked by name -/

theorem operandsWithin_setWidth (op : OpName) {n : Nat} (hn : n ≤ 20) (v : BitVec n) (i : Instr) :
    operandsWithin op n (v.setWidth 20) i = .ok i := by
  have hv : (v.setWidth 20).toNat < 2 ^ n := by
    rw [BitVec.toNat_setWidth_of_le hn]
    exact v.isLt
  rw [operandsWithin, if_pos hv]

theorem decode_encode_muxRdd (ch : ChannelId) : decode c (encode c (.muxRdd ch)) = .ok (.muxRdd ch) := by
  rw [encode, decode, decodeCall, decodeNamed, operandsWithin_setWidth _ (by decide),
    BitVec.extractLsb'_setWidth_of_le (by decide), BitVec.extractLsb'_eq_self]

theorem decode_encode_debConsume (m : SwitchBits) : decode c (encode c (.debConsume m)) = .ok (.debConsume m) := by
  rw [encode, decode, decodeCall, decodeNamed, operandsWithin_setWidth _ (by decide),
    BitVec.extractLsb'_setWidth_of_le (by decide), BitVec.extractLsb'_eq_self]

theorem decode_encode_ftXlt (raw off : BitVec 10) : decode c (encode c (.ftXlt raw off)) = .ok (.ftXlt raw off) := by
  rw [encode, decode, decodeCall, decodeNamed, BitVec.extractLsb'_append_eq_left, BitVec.extractLsb'_append_eq_right]

/-! ## Positions of the sequencer -/

theorem swdHits_iff (p : SwdPattern) (w : BitVec 8) : swdHits p w = true ↔ w &&& p.mask = p.value := beq_iff_eq

/-- At P3 the word picks the variant, A before B before M (R131, log 34). -/
theorem decode_p3 (c : Config) (w : BitVec 8) :
    decode c (.seq 3 0 w) = .ok
      (if w &&& 0x2D = 0x05 then .tuneToggleA
      else if w &&& 0x29 = 0x21 then .tuneToggleB
      else if c.skewMirror = true ∧ w &&& 0x2C = 0x0C then .tuneToggleM
      else .tuneToggle) := by
  have hvariant : decode c (.seq 3 0 w) = .ok (toggleVariant c w) := rfl
  rw [hvariant, toggleVariant]
  simp only [swdHits_iff, Bool.and_eq_true, patToggleA, patToggleB, patToggleM]

/-- At P18 no switch pressed selects the release arm (R103, R156). -/
theorem decode_p18 (c : Config) (w : BitVec 8) :
    decode c (.seq 18 0 w) = .ok (if w &&& 0x07 = 0x00 then .debRelease else .nvPersist) := by
  have harm : decode c (.seq 18 0 w) = .ok (releaseOrPersist w) := rfl
  rw [harm, releaseOrPersist]
  simp only [swdHits_iff, patRelease]

/-- What the decoder may answer at a position: an operation where the sequencer can stand, else the reason why it
cannot, the phase before the turn (R64, log 33). -/
inductive PositionAnswer (p : Phase) (t : BitVec 2) : Except DecodeError Instr → Prop
  | runs (i : Instr) (hp : ¬(20 ≤ p.toNat ∧ p.toNat ≤ 30)) (hl : sequencerLegal p t = true) : PositionAnswer p t (.ok i)
  | noTurn (hp : ¬(20 ≤ p.toNat ∧ p.toNat ≤ 30)) (hl : sequencerLegal p t = false) :
      PositionAnswer p t (.error (.turnNeverHeld p t))
  | noPhase (hp : 20 ≤ p.toNat ∧ p.toNat ≤ 30) (hl : sequencerLegal p t = false) :
      PositionAnswer p t (.error (.phaseNeverHeld p))

/-- A phase with one operation has turn 0 only. -/
theorem onlyTurn_answer {p : Phase} {t : BitVec 2} (i : Instr) (hp : ¬(20 ≤ p.toNat ∧ p.toNat ≤ 30))
    (hl : ∀ t, sequencerLegal p t = (t == 0#2)) : PositionAnswer p t (onlyTurn p t i) := by
  unfold onlyTurn
  split
  · next ht => exact .runs i hp (by simp [hl, ht])
  · next ht => exact .noTurn hp (by simp [hl, ht])

theorem neverHeld_illegal {p : Phase} (hp : 20 ≤ p.toNat ∧ p.toNat ≤ 30) (t : BitVec 2) : sequencerLegal p t = false := by
  revert p t; decide

theorem decodeSeq_answer (c : Config) (p : Phase) (t : BitVec 2) (w : BitVec 8) :
    PositionAnswer p t (decodeSeq c p t w) := by
  unfold decodeSeq
  split
  case h_5 => -- P4
    unfold tuneStep
    split
    · exact .runs _ (by decide) rfl
    · exact .runs _ (by decide) rfl
    · exact .noTurn (by decide) rfl
    · exact .noTurn (by decide) rfl
  case h_15 => -- P14
    unfold freqStep
    split
    · exact .runs _ (by decide) rfl
    · exact .runs _ (by decide) rfl
    · exact .runs _ (by decide) rfl
    · exact .noTurn (by decide) rfl
  case h_22 => -- no phase of the table
    have hp : 20 ≤ p.toNat ∧ p.toNat ≤ 30 := by
      simp only [imp_false, ← BitVec.toNat_inj, BitVec.reduceToNat] at *
      omega
    exact .noPhase hp (neverHeld_illegal hp t)
  all_goals exact onlyTurn_answer _ (by decide) (by decide)

/-- Settles O4: the table row by row, then `decodeSeq_answer` for every position. -/
theorem sequencerCodesAreTotalOnLegalPositions : Obligations.SequencerCodesAreTotalOnLegalPositions := by
  intro c w
  refine ⟨⟨rfl, rfl, rfl⟩, decode_p3 c w, ⟨rfl, rfl⟩, ⟨rfl, rfl, rfl⟩, rfl, ⟨rfl, rfl, rfl, rfl, rfl⟩, ⟨rfl, rfl, rfl⟩,
    ⟨rfl, rfl, rfl⟩, decode_p18 c w, ⟨rfl, rfl⟩, fun p t => ?_⟩
  have hanswer := decodeSeq_answer c p t w
  rw [decode]
  generalize decodeSeq c p t w = answer at hanswer ⊢
  cases hanswer with
  | runs i hp hl => simp [hp, hl]
  | noTurn hp hl => simp [hp, hl]
  | noPhase hp hl => simp [hp, hl]

/-! ## Every operation -/

/-- Settles O3: a command's word comes apart into its own address and data, an operation of format `none` into its
operands, and every other code is one position of the sequencer. -/
theorem decodeOfEncodeIsTheOperation : Obligations.DecodeOfEncodeIsTheOperation := by
  intro c i hc hi
  cases hstore : commandStore c i with
  | some store => exact decode_encode_of_store hc hstore
  | none =>
    cases i with
    | muxRdd ch => exact decode_encode_muxRdd ch
    | debFresh x => cases x <;> rfl
    | debConsume m => exact decode_encode_debConsume m
    | ftXlt raw off => exact decode_encode_ftXlt raw off
    | tuneToggle => exact (decode_p3 c 0).trans (by simp)
    | tuneToggleM =>
      have hmirror : c.skewMirror = true := hi
      exact (decode_p3 c 0x0C).trans (by simp [hmirror])
    | freqUpd k => cases k <;> rfl
    | drvWr | cmdF1lo | cmdF1hi | cmdPwlo | cmdPwhi | cmdCtrl | cmdSus | cmdF2lo | cmdF2hi | cmdF3lo | cmdF3hi
    | cmdFclo | cmdFchi | cmdRes | cmdMode => cases hstore
    | _ => rfl

/-- Settles O2: nine words, each evaluated. -/
theorem writtenOutWordsDecode : Obligations.WrittenOutWordsDecode := by
  refine ⟨?_, ?_, ?_, ?_, ?_, ?_, rfl, rfl, rfl⟩ <;> decide

end Sys2Proof.Machine
end

section
/-! The switch decode word (R62): which register each of its bits is, and what a pattern asks of them. -/

namespace Sys2Proof.Machine

variable (s : State)

/-- The word's four parts, `t g iR iW iF sR sW sF` with bit 7 first. -/
theorem swdWord_parts :
    (swdWord s).getLsbD 7 = s.tuning.mode ∧ (swdWord s).getLsbD 6 = s.synth.gateOff
      ∧ (swdWord s).extractLsb' 3 3 = s.ignoreMask ∧ (swdWord s).extractLsb' 0 3 = s.switchMask := by
  unfold swdWord
  generalize s.tuning.mode = t, s.synth.gateOff = g, s.ignoreMask = i, s.switchMask = h
  revert t g i h; decide

/-- The word's bits as the queries of R101 read them. -/
theorem swdWord_bits :
    (swdWord s)[7] = s.tuning.mode ∧ (swdWord s)[6] = s.synth.gateOff
      ∧ (swdWord s)[5] = ignored s .ringsync ∧ (swdWord s)[4] = ignored s .waveform ∧ (swdWord s)[3] = ignored s .filter
      ∧ (swdWord s)[2] = held s .ringsync ∧ (swdWord s)[1] = held s .waveform ∧ (swdWord s)[0] = held s .filter := by
  obtain ⟨hmode, hgate, hignore, hswitch⟩ := swdWord_parts s
  simp only [ignored, held, maskBit_eq, ← hmode, ← hgate, ← hignore, ← hswitch]
  simp

/-- A word matches a pattern if it agrees with it on every bit the mask has (R62). -/
theorem and_eq_iff_bits (w mask value : BitVec 8) :
    w &&& mask = value ↔ ∀ i : Fin 8, (w[i] && mask[i]) = value[i] := by
  simp [BitVec.eq_of_getElem_eq_iff, Fin.forall_iff]

theorem fresh_iff (x : Switch) : fresh s x = true ↔ held s x = true ∧ ignored s x = false := by
  simp [fresh]

theorem forall_switch {P : Switch → Prop} : (∀ x, P x) ↔ P .filter ∧ P .waveform ∧ P .ringsync :=
  ⟨fun h => ⟨h _, h _, h _⟩, fun ⟨hf, hw, hr⟩ x => by cases x <;> assumption⟩

/-- The release pattern `xxxxx000` (R62, R103). -/
theorem swdWord_released : swdWord s &&& 0x07 = 0x00 ↔ ∀ x, held s x = false := by
  simp [and_eq_iff_bits, Fin.forall_fin_succ, swdWord_bits, forall_switch]

/-- Settles O5: each pattern, bit by bit, is its condition. -/
theorem switchPatternsMeanTheirConditions : Obligations.SwitchPatternsMeanTheirConditions := by
  intro s
  refine ⟨swdWord_parts s, ?_, ?_, ?_, ?_, ?_, ?_, ?_, ?_, ?_, ?_, swdWord_released s, ?persist⟩
  case persist => simp only [ne_eq, swdWord_released, not_forall, Bool.not_eq_false]
  all_goals
    simp [and_eq_iff_bits, Fin.forall_fin_succ, swdWord_bits, fresh_iff]
    tauto

end Sys2Proof.Machine
end

section
/-! The bytes the block forms (R65 to R68): the control byte from its fields, the settings byte packed and read back. -/

namespace Sys2Proof.Machine

variable {w : Byte} {y : Synth}

/-! ## Waveform codes (R65) -/

/-- A code lies in the high nibble alone. -/
theorem waveformCode_append (hw : waveformCode w = true) : w.extractLsb' 4 4 ++ 0#4 = w := by
  revert w; decide

/-- A code other than NONE has exactly one waveform bit. -/
theorem waveformCode_nibble (hw : waveformCode w = true) (hn : w ≠ wfNone) :
    w.extractLsb' 4 4 = 1#4 ∨ w.extractLsb' 4 4 = 2#4 ∨ w.extractLsb' 4 4 = 4#4 ∨ w.extractLsb' 4 4 = 8#4 := by
  revert w; decide

/-! ## The control byte (R67) -/

theorem effectiveWaveform_code (hw : waveformCode y.waveform = true) : waveformCode (effectiveWaveform y) = true := by
  unfold effectiveWaveform
  split
  · rfl
  · exact hw

theorem effectiveWaveform_ne_none (hn : y.waveform ≠ wfNone) : effectiveWaveform y ≠ wfNone := by
  unfold effectiveWaveform
  split
  · decide
  · exact hn

theorem effectiveWaveform_nibble (y : Synth) :
    (effectiveWaveform y).extractLsb' 4 4 =
      if y.oscillator3Mode = o3Ring then 1#4 else y.waveform.extractLsb' 4 4 := by
  unfold effectiveWaveform
  split <;> rfl

/-- Flag bits shifted into a byte whose low nibble is 0 are the fields of `wwww0rsg`. -/
theorem or_flags_eq_ctrlFields (n : BitVec 4) (r s g : Bool) :
    (n ++ 0#4 : Byte) ||| ((BitVec.ofBool r).setWidth 8 <<< 2) ||| ((BitVec.ofBool s).setWidth 8 <<< 1)
      ||| (BitVec.ofBool g).setWidth 8 = ctrlFields n r s g := by
  revert n r s g; decide

theorem controlByte_eq_ctrlFields (hw : waveformCode y.waveform = true) :
    controlByte y =
      ctrlFields ((effectiveWaveform y).extractLsb' 4 4) (y.oscillator3Mode = o3Ring) (y.oscillator3Mode = o3Sync)
        (!y.gateOff) := by
  rw [← or_flags_eq_ctrlFields, waveformCode_append (effectiveWaveform_code hw), controlByte]

theorem ctrlFields_and_F8 (n : BitVec 4) (r s g : Bool) : ctrlFields n r s g &&& 0xF8 = n ++ 0#4 := by
  revert n r s g; decide

/-- Settles O35: the control byte is `wwww0rsg` of its fields, whose waveform nibble is a code's. -/
theorem controlByteIsComposedOfItsFields : Obligations.ControlByteIsComposedOfItsFields := by
  intro s hw _
  rw [controlByte_eq_ctrlFields hw]
  refine ⟨by simp, by simp, by simp, by simp, ?excludes, ?nibble, ?rearm, ?oneBit⟩
  case excludes =>
    rintro ⟨hring, hsync⟩
    simp_all
  case nibble =>
    simp only [ctrlFields_parts]
    exact effectiveWaveform_nibble s.synth
  case rearm => rw [ctrlFields_and_F8, waveformCode_append (effectiveWaveform_code hw)]
  case oneBit =>
    intro hs hp
    have hn : s.synth.waveform ≠ wfNone := hs.waveformSet (.inl (by simp [hp]))
    simp only [ctrlFields_parts]
    exact waveformCode_nibble (effectiveWaveform_code hw) (effectiveWaveform_ne_none hn)

/-! ## The settings byte (R68) -/

theorem pack_fields (y : Synth) :
    (pack y).extractLsb' 4 4 = y.waveform.extractLsb' 4 4 ∧ (pack y).extractLsb' 2 2 = y.filterType
      ∧ (pack y).extractLsb' 0 2 = y.oscillator3Mode := by
  unfold pack
  generalize y.waveform.extractLsb' 4 4 = n, y.filterType = f, y.oscillator3Mode = m
  revert n f m; decide

/-- A mode other than 3 keeps the packed byte from being the sentinel. -/
theorem pack_ne_sentinel (hm : y.oscillator3Mode ≠ 3#2) : pack y ≠ nvSentinel := by
  intro hpack
  have hmode := (pack_fields y).2.2
  rw [hpack] at hmode
  exact hm hmode.symm

theorem unpackWaveform_pack (hw : waveformCode y.waveform = true) (hn : y.waveform ≠ wfNone) :
    unpackWaveform (pack y) = y.waveform := by
  obtain ⟨hnibble, -, -⟩ := pack_fields y
  simp only [unpackWaveform, hnibble, waveformCode_nibble hw hn, if_true, waveformCode_append hw]

theorem unpackFilter_pack (y : Synth) : unpackFilter (pack y) = y.filterType := (pack_fields y).2.1

theorem unpackO3_pack (hm : y.oscillator3Mode ≠ 3#2) : unpackO3 (pack y) = y.oscillator3Mode := by
  obtain ⟨-, -, hmode⟩ := pack_fields y
  simp only [unpackO3, hmode, hm, if_false]

/-- Settles O46: `pack` puts the three fields side by side, and each `unpack` takes its own back. -/
theorem settingsByteRoundTrips : Obligations.SettingsByteRoundTrips :=
  ⟨pack_fields, fun _ => ⟨rfl, rfl, rfl⟩,
    fun y hw hn hm => ⟨pack_ne_sentinel hm, unpackWaveform_pack hw hn, unpackFilter_pack y, unpackO3_pack hm⟩,
    fun _ => rfl⟩

end Sys2Proof.Machine
end

section
/-! What the chip commands write (R63, R67, R70 to R75), and what P18 and P3 save as the next load reads it (R46, R68,
R131, R190). -/

namespace Sys2Proof.Machine

variable {s t : State}

/-! ## The chip commands -/

/-- A command from idle pins is one register write, and its invocation no longer stands. -/
theorem exec_command_idle {i : Instr} {a : ChipAddr} {d : Byte} (hi : commandStore s.cfg i = some (a, d))
    (hidle : driverIdle s = true) : exec i s = .next { afterStore a d s with request := none } := by
  rw [exec_command hi, storeCall, chipStore_idle a d s hidle, andThen_next, endCall_eq]

/-- The control fields as a number: bits 7 to 4, 2, 1 and 0 (R67). -/
theorem ctrlFields_eq_ofNat (w : BitVec 4) (r y g : Bool) :
    ctrlFields w r y g = BitVec.ofNat 8 (16 * w.toNat + 4 * r.toNat + 2 * y.toNat + g.toNat) := by
  revert w r y g; decide

/-- Settles O19: each command is the register write `commandStore` gives, its short fields zero-extended. -/
theorem commandsWriteTheirRegisters : Obligations.CommandsWriteTheirRegisters := by
  intro s hidle
  have hpwhi (p : BitVec 4) : p.setWidth 8 = 0#4 ++ p := BitVec.setWidth_eq_append (by decide)
  have hfclo (b : BitVec 3) : b.setWidth 8 = 0#5 ++ b := BitVec.setWidth_eq_append (by decide)
  simp only [hpwhi, hfclo, ← ctrlFields_eq_ofNat]
  refine ⟨?_, ?_, ?_, ?_, ?_, ?_, ?_, ?_, ?_, ?_, ?_, ?_, ?_, ?_⟩
  all_goals
    intros
    exact exec_command_idle rfl hidle

/-! ## The load -/

/-- `RESET.LOAD` takes the settings and the offset from the store (R190). -/
theorem resetLoad_loads (h : exec .resetLoad s = .next t) :
    t.synth.waveform = (loadSettings (nvReadByte s.mem s.cfg.nvSettings) s.synth).waveform
      ∧ t.synth.filterType = (loadSettings (nvReadByte s.mem s.cfg.nvSettings) s.synth).filterType
      ∧ t.synth.oscillator3Mode = (loadSettings (nvReadByte s.mem s.cfg.nvSettings) s.synth).oscillator3Mode
      ∧ t.tuning.offset = loadOffset (nvReadByte s.mem s.cfg.nvSettings) (nvReadWord s.mem s.cfg.nvTuning) := by
  cases h
  exact ⟨rfl, rfl, rfl, rfl⟩

theorem nvReadByte_nvWriteByte_same (m : Memory) (a : Nat) (b : Byte) : nvReadByte (nvWriteByte m a b) a = b := by
  unfold nvReadByte nvWriteByte
  split
  · next hb => simp [cellsRead_erase, hb]
  · simp [cellsRead_insert]

theorem nvReadWord_nvWriteWord_same (m : Memory) (a : Nat) (w : BitVec 16) : nvReadWord (nvWriteWord m a w) a = w := by
  simp [nvReadWord, nvWriteWord, cellsRead_insert]

/-! ## Settings saved at P18 -/

/-- P18 with some switch pressed stores the packed settings (R156). -/
theorem nvPersist_saved (hm : s.switchMask ≠ 0#3) (h : exec .nvPersist s = .next t) :
    t.cfg = s.cfg ∧ nvReadByte t.mem s.cfg.nvSettings = pack s.synth := by
  rw [exec, execNvPersist, if_pos hm, persistSettings, saveByteMasked_eq] at h
  cases h
  exact ⟨rfl, nvReadByte_nvWriteByte_same _ _ _⟩

/-- Loading a packed byte gives the three fields back, whatever the registers held (R68, R190). -/
theorem loadSettings_pack {y : Synth} (hw : waveformCode y.waveform = true) (hn : y.waveform ≠ wfNone)
    (hm : y.oscillator3Mode ≠ 3#2) (z : Synth) :
    loadSettings (pack y) z =
      { z with waveform := y.waveform, filterType := y.filterType, oscillator3Mode := y.oscillator3Mode } := by
  rw [loadSettings, if_neg (pack_ne_sentinel hm), unpackWaveform_pack hw hn, unpackFilter_pack, unpackO3_pack hm]

/-! ## The offset saved on leaving tuning mode -/

/-- The two fresh switches of variant A, with tuning mode on, store the offset word and nothing else (R131). -/
theorem tuneToggle_saved (htuning : s.tuning.mode = true) (hword : swdWord s &&& 0x2D = 0x05)
    (h : exec .tuneToggle s = .next t) :
    t.cfg = s.cfg ∧ t.mem = nvWriteWord s.mem s.cfg.nvTuning (s.tuning.offset.setWidth 16) := by
  obtain ⟨-, ⟨hfires, -⟩, -⟩ := switchPatternsMeanTheirConditions s
  obtain ⟨hf, hr⟩ := hfires hword
  have htoggle : exec .tuneToggle s = .next (toggleTuning s |> goto 4) := by
    simp [exec, execTuneToggle, toggleIf, toggleA, hf, hr]
  rw [htoggle] at h
  cases h
  simp [toggleTuning, htuning, leaveTuning, saveWordMasked_eq, goto_eq, consume_eq]

/-- An offset within its bounds is read back from its word as it is (R190, D37). -/
theorem offsetLoaded_setWidth {off : BitVec 10} (h : off.toNat ≤ 613) : offsetLoaded (off.setWidth 16) = off := by
  have hint : (off.setWidth 16).toInt = off.toNat := by
    rw [BitVec.toInt_eq_toNat_of_lt] <;> simp <;> omega
  have hclamp : clamp offMin offMax off.toNat = off.toNat := by
    unfold clamp offMin offMax
    split_ifs <;> omega
  rw [offsetLoaded, hint, hclamp, Int.toNat_natCast, BitVec.ofNat_toNat, BitVec.setWidth_eq]

/-- Settles O44: what P18 and P3 store is what the load reads, and both encodings come back. -/
theorem settingsAndOffsetSurviveSaveAndLoad : Obligations.SettingsAndOffsetSurviveSaveAndLoad := by
  intro s t u
  constructor
  · intro hw hn hm hswitch hsave hload
    obtain ⟨hcfg, hbyte⟩ := nvPersist_saved hswitch hsave
    obtain ⟨hwave, hfilter, ho3, -⟩ := resetLoad_loads hload
    rw [hcfg, hbyte, loadSettings_pack hw hn hm] at hwave hfilter ho3
    exact ⟨hbyte ▸ pack_ne_sentinel hm, hwave, hfilter, ho3⟩
  · intro htuning hoff hword hbyte hsave hload
    obtain ⟨hcfg, hmem⟩ := tuneToggle_saved htuning hword hsave
    obtain ⟨-, -, -, hoffset⟩ := resetLoad_loads hload
    have hkept : nvReadByte t.mem s.cfg.nvSettings ≠ nvSentinel := by rw [hmem]; exact hbyte
    rw [hcfg, loadOffset, if_neg hkept, hmem, nvReadWord_nvWriteWord_same, offsetLoaded_setWidth hoff] at hoffset
    exact hoffset

end Sys2Proof.Machine
end

section
/-! The multiplexer and the converter (R90 to R93, R171): what a read does by the answer that comes next, and what a scan
of any list of inputs leaves or where it is stuck. -/

namespace Sys2Proof.Machine

/-! ## The answers still to come -/

/-- Taking one answer renumbers those still to come by one. -/
theorem sampleAt_inputsAfter {s t : State} (h : t.inputs = inputsAfter s 1) (n : Nat) :
    sampleAt t n = sampleAt s (n + 1) := by
  simp [sampleAt, h, inputsAfter, Nat.add_assoc, Nat.add_comm 1]

theorem inputsAfter_inputsAfter {s t : State} (h : t.inputs = inputsAfter s 1) (n : Nat) :
    inputsAfter t n = inputsAfter s (n + 1) := by
  simp [inputsAfter, h, Nat.add_assoc, Nat.add_comm 1]

/-- One of the next `n + 1` answers never comes: the next one, or one of the `n` after it. -/
theorem never_mem_take_succ (s : State) (n : Nat) :
    (.never : AdcAnswer) ∈ s.inputs.adc.take (n + 1) ↔
      nextSample s = none ∨ (.never : AdcAnswer) ∈ (inputsAfter s 1).adc.take n := by
  match h : s.inputs.adc with
  | [] => simp [nextSample, inputsAfter, h]
  | .sample v :: rest => simp [nextSample, inputsAfter, h]
  | .never :: rest => simp [nextSample, inputsAfter, h]

/-- A converter that answers gives the sample `sampleAt` counts as number 0. -/
theorem nextSample_eq_sampleAt {s : State} (h : nextSample s ≠ none) : nextSample s = some (sampleAt s 0) := by
  match ha : s.inputs.adc with
  | [] => simp [nextSample, sampleAt, ha]
  | .sample v :: rest => simp [nextSample, sampleAt, ha]
  | .never :: rest => simp [nextSample, ha] at h

/-! ## One read (R91) -/

theorem readAnalog_answered {s : State} {v : Sample} (hs : s.mux.settled = true) (hv : nextSample s = some v) :
    readAnalog s = .next ({ s with inputs := inputsAfter s 1, out := s.out ++ [.convert s.mux.selCh] }, v) := by
  match ha : s.inputs.adc with
  | [] =>
    obtain rfl : Config.freeSample s.inputs.taken = v := by simpa [nextSample, ha] using hv
    rw [readAnalog_free s hs ha]
    simp [sampleTaken, setInputs, emit_eq, inputsAfter, ha]
  | .sample w :: rest =>
    obtain rfl : w = v := by simpa [nextSample, ha] using hv
    rw [readAnalog_scripted s w rest hs ha]
    simp [sampleTaken, setInputs, emit_eq, inputsAfter, ha]
  | .never :: rest => simp [nextSample, ha] at hv

theorem readAnalog_stuck {s : State} (hs : s.mux.settled = true) (hv : nextSample s = none) :
    readAnalog s = .fault .hwUnavailable := by
  match ha : s.inputs.adc with
  | [] => simp [nextSample, ha] at hv
  | .sample w :: rest => simp [nextSample, ha] at hv
  | .never :: rest => exact readAnalog_never s rest hs ha

/-! ## Select, then read (R90, R91) -/

/-- The multiplexer with channel `ch` selected and settled (R90). -/
def settledOn (ch : ChannelId) : Mux := { sel := ch, selCh := ch, settled := true }

/-- The outputs of one select and read of channel `ch`, in order (R158). -/
def readTrace (c : Config) (ch : ChannelId) : List Output := [.select ch, .settle c.tSettle, .convert ch]

/-- `s` after channel `ch` has been selected and one answer taken. -/
def afterRead (ch : ChannelId) (s : State) : State :=
  { s with mux := settledOn ch, inputs := inputsAfter s 1, out := s.out ++ readTrace s.cfg ch }

theorem selectChannel_settled (ch : ChannelId) (s : State) : (selectChannel ch s).mux.settled = true := by
  rw [selectChannel_eq]

theorem nextSample_selectChannel (ch : ChannelId) (s : State) : nextSample (selectChannel ch s) = nextSample s := by
  rw [selectChannel_eq]
  rfl

/-- A selected line is settled, so the read gives the sample that comes next. -/
theorem readAnalog_selectChannel {s : State} {v : Sample} (ch : ChannelId) (hv : nextSample s = some v) :
    readAnalog (selectChannel ch s) = .next (afterRead ch s, v) := by
  rw [readAnalog_answered (selectChannel_settled ch s) ((nextSample_selectChannel ch s).trans hv), selectChannel_eq]
  simp [afterRead, settledOn, readTrace, inputsAfter]

theorem readAnalog_selectChannel_stuck {s : State} (ch : ChannelId) (hv : nextSample s = none) :
    readAnalog (selectChannel ch s) = .fault .hwUnavailable :=
  readAnalog_stuck (selectChannel_settled ch s) ((nextSample_selectChannel ch s).trans hv)

/-! ## A scan (R93) -/

/-- The sample registers after the inputs `is` have taken the samples `f 0`, `f 1`, … in order. -/
def storeSamples : List Input → (Nat → Sample) → PerInput Sample → PerInput Sample
  | [], _, x => x
  | i :: is, f, x => storeSamples is (fun n => f (n + 1)) (inputSet x i (f 0))

/-- `s` after the inputs `is` have been scanned in order and each read has been answered. -/
def afterScan (is : List Input) (s : State) : State :=
  { s with
    x := storeSamples is (sampleAt s) s.x
    mux := is.foldl (fun _ i => settledOn (inputGet s.cfg.ch i)) s.mux
    inputs := inputsAfter s is.length
    out := s.out ++ is.flatMap fun i => readTrace s.cfg (inputGet s.cfg.ch i) }

theorem afterScan_nil (s : State) : afterScan [] s = s := by
  simp [afterScan, storeSamples, inputsAfter]

/-- Scanning `i :: is` is one read into `x[i]`, then the scan of `is`. -/
theorem afterScan_cons (i : Input) (is : List Input) (s : State) :
    afterScan (i :: is) s =
      afterScan is (setX (inputSet s.x i (sampleAt s 0)) (afterRead (inputGet s.cfg.ch i) s)) := by
  have hinputs :
      (setX (inputSet s.x i (sampleAt s 0)) (afterRead (inputGet s.cfg.ch i) s)).inputs = inputsAfter s 1 := rfl
  have hsamples := funext (sampleAt_inputsAfter hinputs)
  rw [afterScan, afterScan, hsamples, inputsAfter_inputsAfter hinputs]
  simp [storeSamples, afterRead, setX]

/-- While no answer fails to come, each input takes its sample (R93). -/
theorem scanInputs_answered {is : List Input} {s : State}
    (h : (.never : AdcAnswer) ∉ s.inputs.adc.take is.length) : scanInputs is s = .next (afterScan is s) := by
  induction is generalizing s with
  | nil => rw [scanInputs, afterScan_nil]
  | cons i rest ih =>
    rw [List.length_cons, never_mem_take_succ, not_or] at h
    obtain ⟨hnext, hrest⟩ := h
    rw [scanInputs, readAnalog_selectChannel _ (nextSample_eq_sampleAt hnext), andThen_next, afterScan_cons]
    exact ih hrest

/-- An answer that never comes, anywhere in the scan, stops it (R171). -/
theorem scanInputs_stuck {is : List Input} {s : State}
    (h : (.never : AdcAnswer) ∈ s.inputs.adc.take is.length) : scanInputs is s = .fault .hwUnavailable := by
  induction is generalizing s with
  | nil => simp at h
  | cons i rest ih =>
    rw [List.length_cons, never_mem_take_succ] at h
    by_cases hnext : nextSample s = none
    · rw [scanInputs, readAnalog_selectChannel_stuck _ hnext, andThen_fault]
    · rw [scanInputs, readAnalog_selectChannel _ (nextSample_eq_sampleAt hnext), andThen_next]
      exact ih (h.resolve_left hnext)

/-- The scan of all eleven inputs fills the sample registers in index order and leaves the last channel selected. -/
theorem afterScan_inputOrder (s : State) :
    afterScan inputOrder s =
      { s with
        x := ⟨sampleAt s 0, sampleAt s 1, sampleAt s 2, sampleAt s 3, sampleAt s 4, sampleAt s 5, sampleAt s 6,
          sampleAt s 7, sampleAt s 8, sampleAt s 9, sampleAt s 10⟩
        mux := settledOn s.cfg.ch.aRES
        inputs := inputsAfter s 11
        out := s.out ++ scanTrace s.cfg } := rfl

/-! ## The statements -/

/-- Settles O9: no answer missing among eleven gives `afterScan` of all inputs, and one missing stops the scan. -/
theorem muxScanSamplesEveryInputInOrder : Obligations.MuxScanSamplesEveryInputInOrder := by
  intro s
  constructor
  · intro hanswers
    rw [exec, execMuxScan, scanInputs_answered (is := inputOrder) hanswers, andThen_next, goto_eq, afterScan_inputOrder]
    rfl
  · intro hnever
    rw [exec, execMuxScan, scanInputs_stuck (is := inputOrder) hnever, andThen_fault]

/-- Settles O6: the select ends settled, and the invocation no longer stands. -/
theorem muxSelDrivesTheLinesAndSettles : Obligations.MuxSelDrivesTheLinesAndSettles := by
  intro s ch
  rw [exec, execMuxSel, selectChannel_eq, endCall_eq]

/-- Settles O7: the three outcomes of a read, the sample zero-extended into the result. -/
theorem muxRdaReturnsTheSample : Obligations.MuxRdaReturnsTheSample := by
  intro s
  refine ⟨fun v hsettled hsample => ?_, fun hsettled hnever => ?_, fun hunsettled => ?_⟩
  · rw [exec, execMuxRda, readAnalog_answered hsettled hsample, andThen_next, endCallWith_eq, zeroExtend_sample]
  · rw [exec, execMuxRda, readAnalog_stuck hsettled hnever, andThen_fault]
  · rw [exec, execMuxRda, readAnalog_unsettled s hunsettled, andThen_refused]

/-- The answer of a digital read as a word (R92). -/
theorem pressed_word (v : Sample) : (BitVec.ofBool (pressed v)).setWidth 16 = if 512 < v.toNat then 1#16 else 0#16 := by
  by_cases h : 512 < v.toNat
  · rw [(pressed_iff v).2 h, if_pos h]
    rfl
  · rw [Bool.eq_false_iff.2 (mt (pressed_iff v).1 h), if_neg h]
    rfl

/-- Settles O8: the selected line is settled, so the read is stuck only for want of an answer. -/
theorem muxRddThresholdsTheSample : Obligations.MuxRddThresholdsTheSample := by
  intro s ch
  constructor
  · intro v hsample
    rw [exec, execMuxRdd, readAnalog_selectChannel ch hsample, andThen_next, endCallWith_eq, pressed_word]
    rfl
  · intro hnever
    rw [exec, execMuxRdd, readAnalog_selectChannel_stuck ch hnever, andThen_fault]

end Sys2Proof.Machine
end

section
/-! The debouncer (R100 to R105): the three switch bits, what consuming does to them, who consumes what, and one shot per
press over a run. -/

namespace Sys2Proof.Machine

variable {s t : State}

/-! ## The switch bits of a mask -/

@[simp] theorem maskBit_or (a b : SwitchBits) (x : Switch) : maskBit (a ||| b) x = (maskBit a x || maskBit b x) := by
  simp only [maskBit_eq, BitVec.getLsbD_or]

@[simp] theorem maskBit_and (a b : SwitchBits) (x : Switch) : maskBit (a &&& b) x = (maskBit a x && maskBit b x) := by
  simp only [maskBit_eq, BitVec.getLsbD_and]

@[simp] theorem maskBit_switchBit (y x : Switch) : maskBit (switchBit y) x = (x == y) := by
  cases y <;> cases x <;> decide

theorem fresh_eq_false_of_ignored {x : Switch} (h : ignored s x = true) : fresh s x = false := by
  simp [fresh, h]

/-- A yes or no answer as it is handed over, in a 16-bit word (log 14). -/
theorem ofBool_word (b : Bool) : (BitVec.ofBool b).setWidth 16 = if b = true then 1#16 else 0#16 := by
  cases b <;> rfl

/-- The three bits `DEB.LOAD` forms (R81, R100). -/
theorem switchMaskOf_bits (x : PerInput Sample) :
    (switchMaskOf x).getLsbD 0 = pressed x.sF ∧ (switchMaskOf x).getLsbD 1 = pressed x.sW
      ∧ (switchMaskOf x).getLsbD 2 = pressed x.sR := by
  unfold switchMaskOf
  generalize pressed x.sF = f, pressed x.sW = w, pressed x.sR = r
  revert f w r; decide

/-! ## The operations of the debouncer -/

/-- Settles O10: each bit is its sample's digital read. -/
theorem debLoadReadsTheSwitches : Obligations.DebLoadReadsTheSwitches := by
  intro s
  obtain ⟨hf, hw, hr⟩ := switchMaskOf_bits s.x
  refine ⟨switchMaskOf s.x, rfl, ?_, ?_, ?_⟩
  · rw [hf, pressed_iff]
  · rw [hw, pressed_iff]
  · rw [hr, pressed_iff]

/-- Settles O11: `held` and `ignored` are the switch's bits of the two masks. -/
theorem debFreshAnswersFromTheMasks : Obligations.DebFreshAnswersFromTheMasks := by
  rintro s x n rfl
  rw [exec, execDebFresh, endCallWith_eq, ofBool_word]
  simp only [fresh_iff, held, ignored, maskBit_eq]
  cases x <;> rfl

/-- Settles O12: the mask is ORed in. -/
theorem debConsumeSetsItsBits : Obligations.DebConsumeSetsItsBits := by
  intro s m
  refine ⟨s.ignoreMask ||| m, ?_, fun n _ => BitVec.getLsbD_or⟩
  rw [exec, execDebConsume, consume_eq, endCall_eq]

/-- P18's text by its two arms (R103, R156). -/
theorem execDebRelease_eq (s : State) : execDebRelease s = .next (afterPersist s) := by
  unfold execDebRelease afterPersist
  split
  · rfl
  · rw [persistSettings, saveByteMasked_eq, goto_eq]
    rfl

/-- Settles O14: both rows of P18 are one text. -/
theorem phaseEighteenPersistsOrReleases : Obligations.PhaseEighteenPersistsOrReleases := fun s =>
  ⟨(exec_persist rfl s).trans (execDebRelease_eq s), (exec_persist rfl s).trans (execDebRelease_eq s)⟩

/-! ## What else a consuming phase does leaves `IgnoreMask` alone -/

@[simp] theorem setWaveform_ignoreMask (v : Byte) (s : State) : (setWaveform v s).ignoreMask = s.ignoreMask := by
  obtain ⟨d, hset, -⟩ := setWaveform_writes v s
  rw [hset]

@[simp] theorem setO3_ignoreMask (m : BitVec 2) (s : State) : (setO3 m s).ignoreMask = s.ignoreMask := by
  obtain ⟨d, r, hset, -⟩ := setO3_writes m s
  rw [hset]

@[simp] theorem enterTuning_ignoreMask (s : State) : (enterTuning s).ignoreMask = s.ignoreMask := by
  obtain ⟨m, d, henter, -⟩ := enterTuning_writes s
  rw [henter]

@[simp] theorem leaveTuning_ignoreMask (s : State) : (leaveTuning s).ignoreMask = s.ignoreMask := by
  rw [leaveTuning, saveWordMasked_eq]

theorem toggleTuning_ignoreMask (s : State) :
    (toggleTuning s).ignoreMask = s.ignoreMask ||| (switchBit .filter ||| switchBit .ringsync) := by
  unfold toggleTuning
  dsimp only
  split
  · rw [enterTuning_ignoreMask]; rfl
  · rw [leaveTuning_ignoreMask]; rfl

theorem chipStore_ignoreMask {a : ChipAddr} {d : Byte} (h : chipStore a d s = .next t) :
    t.ignoreMask = s.ignoreMask := by
  obtain ⟨_, _, _, rfl, -⟩ := chipStore_writes h
  rfl

theorem muteGate_ignoreMask (h : muteGate s = .next t) : t.ignoreMask = s.ignoreMask := by
  unfold muteGate at h
  split at h
  · cases h; rfl
  · obtain ⟨u, hstore, hraise⟩ := (andThen_eq_next _ _ _).1 h
    have hkept := chipStore_ignoreMask hstore
    cases hraise
    exact hkept

/-! ## The callers of consume -/

/-- The callers R102 names, each with the condition it fires on in state `s` and the switches it then consumes. -/
inductive Consumer (s : State) : Instr → Bool → SwitchBits → Prop
  | tuneToggle : Consumer s .tuneToggle (toggleA s || toggleB s || toggleM s) (switchBit .filter ||| switchBit .ringsync)
  | gateMute : Consumer s .gateMute (fresh s .waveform && fresh s .ringsync) (switchBit .waveform ||| switchBit .ringsync)
  | filtNext : Consumer s .filtNext (!s.tuning.mode && fresh s .filter) (switchBit .filter)
  | gateRestore : Consumer s .gateRestore (fresh s .waveform && s.synth.gateOff) (switchBit .waveform)
  | wfNext : Consumer s .wfNext (fresh s .waveform && !s.synth.gateOff) (switchBit .waveform)
  | o3Next : Consumer s .o3Next (!s.tuning.mode && !s.synth.gateOff && fresh s .ringsync) (switchBit .ringsync)

variable {i : Instr} {cond : Bool} {m : SwitchBits} {x : Switch}

/-- A phase that only consumes under its condition, `u` being what its body makes of `s`. -/
theorem goto_ite_ignoreMask {u : State} (hu : u.ignoreMask = s.ignoreMask ||| m) (p : Phase) :
    (goto p (if cond then u else s)).ignoreMask = if cond then s.ignoreMask ||| m else s.ignoreMask := by
  rw [goto_eq, apply_ite State.ignoreMask, hu]

/-- `Consumer` says what the phases do: `IgnoreMask` gains the mask when the condition holds, and stays otherwise. -/
theorem consumer_ignoreMask (hi : Consumer s i cond m) (h : exec i s = .next t) :
    t.ignoreMask = if cond then s.ignoreMask ||| m else s.ignoreMask := by
  cases hi with
  | tuneToggle => cases h; exact goto_ite_ignoreMask (toggleTuning_ignoreMask s) 4
  | gateMute =>
    obtain ⟨u, hbody, hgoto⟩ := (andThen_eq_next _ _ _).1 h
    cases hgoto
    split at hbody
    · next hc => rw [if_pos hc]; exact muteGate_ignoreMask hbody
    · next hc => cases hbody; rw [if_neg hc]; rfl
  | filtNext => cases h; exact goto_ite_ignoreMask rfl 7
  | gateRestore =>
    obtain ⟨u, hbody, hgoto⟩ := (andThen_eq_next _ _ _).1 h
    cases hgoto
    split at hbody
    · next hc =>
      obtain ⟨v, hstore, hraise⟩ := (andThen_eq_next _ _ _).1 hbody
      have hkept := chipStore_ignoreMask hstore
      cases hraise
      rw [if_pos hc]
      exact hkept
    · next hc => cases hbody; rw [if_neg hc]; rfl
  | wfNext => cases h; exact goto_ite_ignoreMask (setWaveform_ignoreMask _ _) 9
  | o3Next => cases h; exact goto_ite_ignoreMask (setO3_ignoreMask _ _) 11

theorem consumer_ignored (hi : Consumer s i cond m) (h : exec i s = .next t) (x : Switch) :
    ignored t x = (ignored s x || (maskBit m x && cond)) := by
  rw [ignored, consumer_ignoreMask hi h, ignored]
  cases cond <;> simp

/-- A condition that holds makes every switch of its mask fresh, or finds it marked (R131: variants B and M). -/
theorem consumer_fresh_or_ignored (hi : Consumer s i cond m) (hcond : cond = true) (hx : maskBit m x = true) :
    ignored s x = true ∨ fresh s x = true := by
  cases hi <;>
    simp only [toggleA, toggleB, toggleM, maskBit_or, maskBit_switchBit, Bool.or_eq_true, Bool.and_eq_true,
      beq_iff_eq] at hcond hx
  case tuneToggle => obtain rfl | rfl := hx <;> tauto
  case gateMute =>
    obtain ⟨hw, hr⟩ := hcond
    obtain rfl | rfl := hx
    · exact .inr hw
    · exact .inr hr
  case filtNext | o3Next => exact .inr (hx ▸ hcond.2)
  case gateRestore | wfNext => exact .inr (hx ▸ hcond.1)

theorem consumer_marks_only_fresh (hi : Consumer s i cond m) (h : exec i s = .next t) (hx : ignored t x = true) :
    ignored s x = true ∨ fresh s x = true := by
  rw [consumer_ignored hi h, Bool.or_eq_true, Bool.and_eq_true] at hx
  obtain hmarked | ⟨hbit, hcond⟩ := hx
  · exact .inl hmarked
  · exact consumer_fresh_or_ignored hi hcond hbit

theorem consume_bits (m : SwitchBits) (s : State) (n : Nat) :
    (consume m s).ignoreMask.getLsbD n = (s.ignoreMask.getLsbD n || m.getLsbD n) := by
  rw [consume_eq, BitVec.getLsbD_or]

/-- Settles O13: each clause is its caller's row of `Consumer`. -/
theorem consumersMarkTheirSwitches : Obligations.ConsumersMarkTheirSwitches := by
  intro s
  refine ⟨fun m => ⟨rfl, fun n _ => consume_bits m s n⟩, fun t h x => ?_, fun t h x => ?_, fun t h x => ?_,
    fun t h x => ?_, fun t h x => ?_, fun t h x => ?_, fun i hi t x h => ?_⟩
  · rw [consumer_ignored .tuneToggle h]
    simp [toggleA, toggleB, toggleM, Bool.and_or_distrib_left]
  · rw [consumer_ignored .gateMute h]
    simp
  · rw [consumer_ignored .filtNext h]
    simp
  · rw [consumer_ignored .gateRestore h]
    simp [Bool.and_comm]
  · rw [consumer_ignored .wfNext h]
    simp [Bool.and_comm]
  · rw [consumer_ignored .o3Next h]
    simp
  · obtain ⟨cond, m, hconsumer⟩ : ∃ cond m, Consumer s i cond m := by
      simp only [List.mem_cons, List.not_mem_nil, or_false] at hi
      obtain rfl | rfl | rfl | rfl | rfl | rfl := hi <;> exact ⟨_, _, by constructor⟩
    exact consumer_marks_only_fresh hconsumer h

/-! ## One shot per press -/

/-- A property that each step from a state in `Q` keeps holds at the end of a run that stays in `Q`. -/
theorem run_keeps {M : Host.Core} {P Q : M.State → Prop} (hstep : ∀ s t, Q s → P s → M.step s = .next t → P t)
    {n : Nat} : ∀ {s t : M.State}, P s → (∀ m < n, ∀ u, M.run m s = .next u → Q u) → M.run n s = .next t → P t := by
  induction n with
  | zero => rintro s _ hs - ⟨⟩; exact hs
  | succ n ih =>
    intro s t hs hstays hrun
    rw [Host.Core.run] at hrun
    cases hfirst : M.step s with
    | next u =>
      have hrest : M.run n u = .next t := by simpa [hfirst] using hrun
      have hu : P u := hstep s u (hstays 0 n.succ_pos s rfl) hs hfirst
      refine ih hu (fun m hm v hv => hstays (m + 1) (Nat.succ_lt_succ hm) v ?_) hrest
      simpa [Host.Core.run, hfirst] using hv
    | fault r => simp [hfirst] at hrun
    | refused r => simp [hfirst] at hrun

theorem ignored_of_kept (hkept : t.ignoreMask &&& s.ignoreMask = s.ignoreMask) (h : ignored s x = true) :
    ignored t x = true := by
  rw [ignored, ← hkept, maskBit_and, Bool.and_eq_true] at h
  exact h.1

/-- Settles O53: a marked switch stays marked along the run (O52 step by step), and a marked switch is not fresh. -/
theorem consumedSwitchIsNotFreshUntilAllReleased : Obligations.ConsumedSwitchIsNotFreshUntilAllReleased := by
  intro n s t x hs hstays hrun
  refine fresh_eq_false_of_ignored
    (run_keeps (M := Sys2Proof.core) (P := fun u : State => ignored u x = true) ?_ hs hstays hrun)
  rintro u v ⟨hreset, hp31, hrelease⟩ hu hstep
  obtain hkept | ⟨hp18, hnone, -⟩ := ignoreMaskClearsOnlyWhenAllReleased u v hreset hp31 hstep
  · exact ignored_of_kept hkept hu
  · exact absurd ⟨hp18, hnone⟩ hrelease

end Sys2Proof.Machine
end

section
/-! The frequency translator (R110, R111): a table whose entries rise is in order and holds no value twice, a lookup is
the entry at the sum of sample and offset, and so it rises with either. -/

namespace Sys2Proof.Machine

variable {c : Config}

/-! ## The table: rising entries -/

/-- `strictlyRising` compares neighbours. -/
theorem strictlyRising_iff_isChain (l : List FreqValue) : strictlyRising l = true ↔ l.IsChain (· < ·) := by
  match l with
  | [] | [_] => simp [strictlyRising]
  | a :: b :: rest => simp [strictlyRising, strictlyRising_iff_isChain (b :: rest), BitVec.lt_def]

theorem tab_pairwise_lt (hc : c.wf = true) : c.tab.Pairwise (· < ·) := by
  obtain ⟨-, hrising, -⟩ := wf_numbers c hc
  exact List.isChain_iff_pairwise.1 ((strictlyRising_iff_isChain _).1 hrising)

/-- Rising entries are distinct, and there are 65536 values of 16 bits (R111). -/
theorem tab_length_le (hc : c.wf = true) : c.tab.length ≤ 65536 := by
  have hnodup : c.tab.Nodup := (tab_pairwise_lt hc).imp BitVec.ne_of_lt
  calc c.tab.length ≤ Fintype.card FreqValue := hnodup.length_le_card
    _ = FinEnum.card FreqValue := FinEnum.card_eq_fintypeCard.symm
    _ = 65536 := FinEnum.card_bitVec 16

theorem tab_lt_of_index_lt (hc : c.wf = true) {i j : Nat} {v w : FreqValue} (hij : i < j)
    (hv : c.tab[i]? = some v) (hw : c.tab[j]? = some w) : v < w := by
  obtain ⟨hi, rfl⟩ := List.getElem?_eq_some_iff.1 hv
  obtain ⟨hj, rfl⟩ := List.getElem?_eq_some_iff.1 hw
  exact List.pairwise_iff_getElem.1 (tab_pairwise_lt hc) i j hi hj hij

/-- The largest index the block can form is within the table (R45). -/
theorem index_lt_tab_length (hc : c.wf = true) (raw : BitVec 10) {off : BitVec 10} (hoff : off.toNat ≤ 613) :
    raw.toNat + off.toNat < c.tab.length := by
  obtain ⟨hlen, -⟩ := wf_numbers c hc
  omega

/-! ## The lookup -/

theorem tableLookup_eq_next (c : Config) (raw off : BitVec 10) (v : FreqValue) :
    tableLookup c raw off = .next v ↔ c.tab[raw.toNat + off.toNat]? = some v := by
  rw [tableLookup, tableIndex_eq]
  split
  · next u hu => simp [hu]
  · next hnone => simp [hnone]

theorem tableLookup_past {raw off : BitVec 10} (h : c.tab.length ≤ raw.toNat + off.toNat) :
    tableLookup c raw off = .fault (.tableRange (raw.toNat + off.toNat)) := by
  rw [tableLookup, tableIndex_eq, List.getElem?_eq_none h]

/-- A larger index gives a larger value, whichever of sample and offset made it larger. -/
theorem tableLookup_lt (hc : c.wf = true) {r1 o1 r2 o2 : BitVec 10} {v w : FreqValue}
    (hlt : r1.toNat + o1.toNat < r2.toNat + o2.toNat)
    (hv : tableLookup c r1 o1 = .next v) (hw : tableLookup c r2 o2 = .next w) : v.toNat < w.toNat :=
  tab_lt_of_index_lt hc hlt ((tableLookup_eq_next ..).1 hv) ((tableLookup_eq_next ..).1 hw)

/-- Settles O16: the entries rise with the index, and the index with the sample and with the offset. -/
theorem translationIsStrictlyMonotone : Obligations.TranslationIsStrictlyMonotone := by
  intro c hc
  refine ⟨tab_length_le hc, fun r1 r2 off v w hr => ?_, fun raw o1 o2 v w ho => ?_⟩
  · exact tableLookup_lt hc (Nat.add_lt_add_right hr off.toNat)
  · exact tableLookup_lt hc (Nat.add_lt_add_left ho raw.toNat)

/-- Settles O15: the lookup's two outcomes, and the bound on the index under the constraints. -/
theorem ftXltLooksUpTheSum : Obligations.FtXltLooksUpTheSum := by
  intro s raw off
  refine ⟨fun h => ?_, fun h => ?_, fun hc => index_lt_tab_length hc raw⟩
  · have hfound := (tableLookup_eq_next ..).2 (List.getElem?_eq_getElem h)
    rw [exec, execFtXlt, hfound, andThen_next, endCallWith_eq]
  · rw [exec, execFtXlt, tableLookup_past h, andThen_fault]

end Sys2Proof.Machine
end

section
/-! The register write driver (R120 to R126): when the pins are idle and when they show a write in progress, what one
write leaves in memory and in the record, and that bytes and words of the store are places of their own (R46, log 24). -/

namespace Sys2Proof.Machine

variable {s : State}

/-! ## Idle and busy pins (R125) -/

theorem driverIdle_iff : driverIdle s = true ↔ s.pins.csN = true ∧ s.pins.ale = !s.cfg.aleActive := by
  simp [driverIdle]

/-- A write in progress shows on chip select or on the strobe. -/
theorem driverIdle_eq_false_iff : driverIdle s = false ↔ s.pins.csN = false ∨ s.pins.ale = s.cfg.aleActive := by
  rw [← Bool.not_eq_true, driverIdle_iff, not_and_or, Bool.not_eq_true, Bool.eq_not, not_not]

/-- A command, `DRV.WR` among them, that finds a write in progress is refused. -/
theorem exec_command_busy {i : Instr} {a : ChipAddr} {d : Byte} (hi : commandStore s.cfg i = some (a, d))
    (hbusy : driverIdle s = false) : exec i s = .refused .driverBusy := by
  rw [exec_command hi, storeCall, chipStore_busy a d s hbusy, andThen_refused]

/-- Settles O17: from idle pins `DRV.WR` is the register write, and either pin out of place makes it a busy one. -/
theorem drvWrRunsThePinTrace : Obligations.DrvWrRunsThePinTrace := by
  intro s a d
  refine ⟨fun hcs hale => ?_, fun hcs => ?_, fun hale => ?_⟩
  · exact exec_command_idle rfl (driverIdle_iff.2 ⟨hcs, hale⟩)
  · exact exec_command_busy rfl (driverIdle_eq_false_iff.2 (.inl hcs))
  · exact exec_command_busy rfl (driverIdle_eq_false_iff.2 (.inr hale))

/-! ## What a register write leaves (R126) -/

theorem chipRead_afterStore (a b : ChipAddr) (d : Byte) (s : State) :
    chipRead (afterStore a d s).mem b = if b = a then some d else chipRead s.mem b :=
  chipRead_chipWrite s.mem a b d

theorem nvReadByte_afterStore (a : ChipAddr) (d : Byte) (s : State) (n : Nat) :
    nvReadByte (afterStore a d s).mem n = nvReadByte s.mem n := rfl

theorem nvReadWord_afterStore (a : ChipAddr) (d : Byte) (s : State) (n : Nat) :
    nvReadWord (afterStore a d s).mem n = nvReadWord s.mem n := rfl

theorem writesIn_append (os ps : List Output) : writesIn (os ++ ps) = writesIn os + writesIn ps :=
  List.countP_append

/-- Chip select is deasserted once in the nine pin events. -/
theorem writesIn_pinTrace (c : Config) (a : ChipAddr) (d : Byte) : writesIn (pinTrace c a d) = 1 := rfl

theorem writesIn_afterStore (a : ChipAddr) (d : Byte) (s : State) :
    writesIn (afterStore a d s).out = writesIn s.out + 1 := by
  rw [afterStore, writesIn_append, writesIn_pinTrace]

/-! ## What a save leaves (R46, R48) -/

theorem nvReadByte_nvWriteByte (m : Memory) (a n : Nat) (b : Byte) :
    nvReadByte (nvWriteByte m a b) n = if n = a then b else nvReadByte m n := by
  split
  · next heq => rw [heq, nvReadByte_nvWriteByte_same]
  · next hne => exact nvReadByte_nvWriteByte_of_ne hne

theorem nvReadWord_nvWriteWord (m : Memory) (a n : Nat) (w : BitVec 16) :
    nvReadWord (nvWriteWord m a w) n = if n = a then w else nvReadWord m n := by
  split
  · next heq => rw [heq, nvReadWord_nvWriteWord_same]
  · next hne => exact nvReadWord_nvWriteWord_of_ne hne

theorem nvReadWord_nvWriteByte (m : Memory) (a n : Nat) (b : Byte) :
    nvReadWord (nvWriteByte m a b) n = nvReadWord m n := rfl

theorem nvReadByte_nvWriteWord (m : Memory) (a n : Nat) (w : BitVec 16) :
    nvReadByte (nvWriteWord m a w) n = nvReadByte m n := rfl

/-- Settles O18: read after write for the chip and for the store, and the three parts of memory kept apart. -/
theorem eachStoreReachesOnePlace : Obligations.EachStoreReachesOnePlace := by
  refine ⟨fun s a d => ?chip, fun m a n b w => ?store⟩
  case chip =>
    refine ⟨?written, fun b hne => ?other, nvReadByte_afterStore a d s, nvReadWord_afterStore a d s,
      writesIn_afterStore a d s⟩
    case written => rw [chipRead_afterStore, if_pos rfl]
    case other => rw [chipRead_afterStore, if_neg hne]
  case store =>
    exact ⟨nvReadByte_nvWriteByte m a n b, nvReadWord_nvWriteWord m a n w, nvReadWord_nvWriteByte m a n b,
      nvReadByte_nvWriteWord m a n w⟩

end Sys2Proof.Machine
end

section
/-! One step of the machine (R130, R80): the operation the code selects, after what arrives; and that in a safe state
which nothing disturbs there is always such an operation, and it completes (R171). -/

namespace Sys2Proof.Machine

variable {s t u : State}

/-! ## The operation a step runs -/

/-- A step is the operation the fetched code selects, run on the state in which the event has landed (log 8). -/
theorem step_eq_exec {k : Code} {i : Instr} (harr : arrive s = .next u) (hfetch : fetchCode u = .next k)
    (hdec : decode u.cfg k = .ok i) : step s = exec i u := by
  rw [step, harr, andThen_next, runNext, hfetch, andThen_next, decodeCode, hdec, andThen_next]

/-- With nothing invoked by name, the sequencer's position and the switch decode word select the operation. -/
theorem step_eq_exec_sequencer {i : Instr} (harr : arrive s = .next u) (hreq : u.request = none)
    (hdec : decode u.cfg (.seq u.phase u.turn (swdWord u)) = .ok i) : step s = exec i u :=
  step_eq_exec harr (fetchCode_sequencer u hreq) hdec

theorem arrive_nothing (h : s.inputs.events = []) : arrive s = .next s :=
  (arrive_eq_next s s).2 (.inl ⟨h, rfl⟩)

theorem arrive_quiet {es : List Event} (h : s.inputs.events = .quiet :: es) : arrive s = .next (dropEvent es s) :=
  (arrive_eq_next s _).2 (.inr (.inl ⟨es, h, rfl⟩))

theorem arrive_tick {es : List Event} (h : s.inputs.events = .tick :: es) :
    arrive s = .next (tickArrives (dropEvent es s)) :=
  (arrive_eq_next s _).2 (.inr (.inr (.inl ⟨es, h, rfl⟩)))

/-- Settles O1: one clause for each thing that can arrive or stand invoked; a quiet or a tick event touches neither the
sequencer nor the registers the decode word is formed from. -/
theorem stepRunsTheSelectedOperation : Obligations.StepRunsTheSelectedOperation := by
  refine ⟨fun s i hev hreq hdec => ?_, fun s c i hev hreq hp0 hp31 hdec => ?_, fun s es i hev hreq hdec => ?_,
    fun s es i hev hreq hdec => ?_⟩
  · exact step_eq_exec_sequencer (arrive_nothing hev) hreq hdec
  · have hin : insideTick s.phase = true := by simp [insideTick, hp0, hp31]
    exact step_eq_exec (arrive_nothing hev) (fetchCode_call s c hreq hin) hdec
  · exact step_eq_exec_sequencer (u := dropEvent es s) (arrive_quiet hev) hreq hdec
  · exact step_eq_exec_sequencer (u := tickArrives (dropEvent es s)) (arrive_tick hev) hreq hdec

/-! ## Operations that complete -/

/-- The operation reaches a next state: it raises no fault and is not refused. -/
def Completes (o : Res State) : Prop := ∃ t, o = .next t

theorem completes_next (t : State) : Completes (.next t) := ⟨t, rfl⟩

theorem completes_followed {o : Res State} {f : State → State} (ho : Completes o) :
    Completes (andThen o fun t => .next (f t)) := by
  obtain ⟨t, rfl⟩ := ho
  exact ⟨f t, rfl⟩

theorem completes_ite {p : Prop} [Decidable p] {o e : Res State} (ho : Completes o) (he : Completes e) :
    Completes (if p then o else e) := by
  split <;> assumption

theorem completes_chipStore (a : ChipAddr) (d : Byte) (h : driverIdle s = true) : Completes (chipStore a d s) :=
  ⟨_, chipStore_idle a d s h⟩

theorem completes_chipStore2 (a b : ChipAddr) (d e : Byte) (h : driverIdle s = true) :
    Completes (chipStore2 a d b e s) :=
  ⟨_, chipStore2_idle a d b e s h⟩

/-- A phase whose body is run under a condition, then left. -/
theorem completes_phase {p : Prop} [Decidable p] {o : Res State} {f : State → State} (ho : Completes o) :
    Completes (andThen (if p then o else .next s) fun t => .next (f t)) :=
  completes_followed (completes_ite ho (completes_next s))

theorem completes_muteGate (h : driverIdle s = true) : Completes (muteGate s) :=
  completes_ite (completes_next s) (completes_followed (completes_chipStore _ _ h))

theorem completes_writeControl (h : driverIdle s = true) : Completes (writeControl s) :=
  completes_ite (completes_chipStore2 _ _ _ _ h) (completes_chipStore _ _ h)

/-- The lookup finds its entry: within the constraints no index is past the table's end (R45, R172). -/
theorem completes_writeFreq (k : FreqCh) (hc : s.cfg.wf = true) (hoff : s.tuning.offset.toNat ≤ 613)
    (h : driverIdle s = true) : Completes (writeFreq k s) := by
  have hindex := index_lt_tab_length hc (inputGet s.x (freqInput k)) hoff
  have hfound := (tableLookup_eq_next ..).2 (List.getElem?_eq_getElem hindex)
  rw [writeFreq, hfound, andThen_next]
  exact completes_followed (completes_chipStore2 _ _ _ _ h)

/-- A converter that answers lets the scan fill the sample registers (R93). -/
theorem muxScan_answered (h : converterAnswers s = true) :
    exec .muxScan s = .next (afterScan inputOrder s |> goto 2) := by
  have hanswers : (.never : AdcAnswer) ∉ s.inputs.adc.take inputOrder.length := fun hmem => by
    simpa using List.all_eq_true.1 h _ (List.mem_of_mem_take hmem)
  rw [exec, execMuxScan, scanInputs_answered hanswers, andThen_next]

/-- In a safe state every operation of the sequencer completes: the pins are idle, the table has its entry, and the
converter is assumed to answer (R171, R172, R125). -/
theorem completes_sequencer {i : Instr} (hs : SafeState s) (hans : converterAnswers s = true)
    (hrun : SequencerRuns s.phase i) : Completes (exec i s) := by
  have hidle := hs.pins
  generalize s.phase = p at hrun
  cases hrun with
  | muxScan => exact ⟨_, muxScan_answered hans⟩
  | toggle i hi => obtain ⟨b, hb⟩ := exec_toggle hi s; exact ⟨_, hb⟩
  | gateMute => exact completes_phase (completes_muteGate hidle)
  | gateRestore => exact completes_phase (completes_followed (completes_chipStore _ _ hidle))
  | ctrlWr => exact completes_phase (completes_followed (completes_writeControl hidle))
  | fmodeWr => exact completes_phase (completes_followed (completes_chipStore _ _ hidle))
  | freqUpd k => exact completes_phase (completes_writeFreq k hs.config hs.offset hidle)
  | pwUpd => exact completes_phase (completes_followed (completes_chipStore2 _ _ _ _ hidle))
  | fcUpd => exact completes_phase (completes_followed (completes_chipStore2 _ _ _ _ hidle))
  | resUpd => exact completes_phase (completes_followed (completes_chipStore _ _ hidle))
  | persist i hi => exact ⟨_, exec_persist hi s⟩
  | tick | debLoad | tuneDec | tuneInc | filtNext | wfDefault | wfNext | wfPot | o3Next | o3Cv | ledOut | resetLoad =>
    exact completes_next _

/-! ## Steps that nothing disturbs -/

/-- Nothing invokes an operation, no reset is to come, and the converter answers (R203, R171). -/
structure Undisturbed (s : State) : Prop where
  uninvoked : noCalls s = true
  noReset : noResets s = true
  answers : converterAnswers s = true

/-- `s` with the events `es` still to come and `pending` as an event left it. -/
abbrev arrived (es : List Event) (b : Bool) (s : State) : State :=
  { s with inputs := { s.inputs with events := es }, irq := { s.irq with pending := b } }

/-- What arrives is a quiet or a tick event or nothing; the samples to come are still to come. -/
theorem arrive_undisturbed (he : Undisturbed s) :
    ∃ es b, arrive s = .next (arrived es b s) ∧ Undisturbed (arrived es b s) ∧ (s.irq.pending = true → b = true) := by
  have huninvoked := he.uninvoked
  have hnoReset := he.noReset
  rw [noCalls, Bool.and_eq_true] at huninvoked
  rw [noResets] at hnoReset
  match hev : s.inputs.events with
  | [] => exact ⟨s.inputs.events, _, arrive_nothing hev, he, id⟩
  | .quiet :: es =>
    rw [hev, List.all_cons, Bool.and_eq_true] at hnoReset
    have harr := arrive_quiet hev
    exact ⟨es, _, harr, ⟨arrive_keeps_noCalls he.uninvoked harr, hnoReset.2, he.answers⟩, id⟩
  | .tick :: es =>
    rw [hev, List.all_cons, Bool.and_eq_true] at hnoReset
    have harr := arrive_tick hev
    exact ⟨es, true, harr, ⟨arrive_keeps_noCalls he.uninvoked harr, hnoReset.2, he.answers⟩, fun _ => rfl⟩
  | .reset :: es => simp [hev] at hnoReset
  | .invoke c :: es => simp [hev] at huninvoked

/-- The turn of its phase an operation runs at (R64, log 10). -/
def turnOf (i : Instr) : BitVec 2 :=
  match i with
  | .tuneInc => 1
  | .freqUpd .two => 1
  | .freqUpd .three => 2
  | _ => 0

theorem onlyTurn_turn {p : Phase} {turn : BitVec 2} {i j : Instr} (h : onlyTurn p turn i = .ok j) : turn = 0#2 := by
  unfold onlyTurn at h
  split at h
  · assumption
  · cases h

theorem turnOf_toggle {i : Instr} (hi : savesOffset i = true) : turnOf i = 0#2 := by
  cases i <;> cases hi <;> rfl

theorem turnOf_persist {i : Instr} (hi : savesSettings i = true) : turnOf i = 0#2 := by
  cases i <;> cases hi <;> rfl

/-- `turnOf` is the turn the decoder reads. -/
theorem decodeSeq_turn {c : Config} {p : Phase} {turn : BitVec 2} {w : BitVec 8} {i : Instr}
    (h : decodeSeq c p turn w = .ok i) : turn = turnOf i := by
  unfold decodeSeq at h
  split at h
  case h_4 => rw [onlyTurn_turn h, onlyTurn_eq_ok h, turnOf_toggle (savesOffset_toggleVariant c w)]
  case h_5 =>
    unfold tuneStep at h
    split at h <;> cases h <;> rfl
  case h_9 =>
    obtain rfl := onlyTurn_turn h
    obtain rfl := onlyTurn_eq_ok h
    unfold restoreOrNext
    split <;> rfl
  case h_15 =>
    unfold freqStep at h
    split at h <;> cases h <;> rfl
  case h_19 => rw [onlyTurn_turn h, onlyTurn_eq_ok h, turnOf_persist (savesSettings_releaseOrPersist w)]
  case h_22 => cases h
  all_goals
    obtain rfl := onlyTurn_turn h
    obtain rfl := onlyTurn_eq_ok h
    rfl

/-- A position the sequencer can hold selects an operation, whatever the switch decode word. -/
theorem decodeSeq_legal {p : Phase} {turn : BitVec 2} (h : sequencerLegal p turn = true) (c : Config) (w : BitVec 8) :
    ∃ i, decodeSeq c p turn w = .ok i := by
  have hanswer := decodeSeq_answer c p turn w
  generalize decodeSeq c p turn w = answer at hanswer ⊢
  cases hanswer with
  | runs i _ _ => exact ⟨i, rfl⟩
  | noTurn _ hl => simp [hl] at h
  | noPhase _ hl => simp [hl] at h

/-- In a safe state that nothing disturbs, a step is an operation of the sequencer, run on what has arrived, and it
completes. -/
theorem step_undisturbed (hs : SafeState s) (he : Undisturbed s) :
    ∃ es b i t, Undisturbed (arrived es b s) ∧ (s.irq.pending = true → b = true)
      ∧ SequencerRuns s.phase i ∧ s.turn = turnOf i ∧ exec i (arrived es b s) = .next t ∧ step s = .next t := by
  obtain ⟨es, b, harr, hu, hb⟩ := arrive_undisturbed he
  have hsafe : SafeState (arrived es b s) := arrive_keeps_safe hs harr
  have hreq : (arrived es b s).request = none := request_of_noCalls hu.uninvoked
  obtain ⟨i, hdec⟩ := decodeSeq_legal hs.sequencer s.cfg (swdWord (arrived es b s))
  have hrun : SequencerRuns s.phase i := decodeSeq_runs hdec
  obtain ⟨t, hexec⟩ := completes_sequencer hsafe hu.answers hrun
  exact ⟨es, b, i, t, hu, hb, hrun, decodeSeq_turn hdec, hexec,
    (step_eq_exec_sequencer harr hreq hdec).trans hexec⟩

end Sys2Proof.Machine
end

section
/-! A tick from P0 back to P0 (R130): how many operations are left of it at each position of the sequencer, that every
step takes one of them away, and what stands when none is left. -/

namespace Sys2Proof.Machine

variable {s t : State}

/-! ## Positions of the sequencer -/

/-- The operations left of a tick at a position of the sequencer, none at P0 (R130): one for each phase from here to
P19, and one for each further turn of P4 and P14 (log 10). -/
def operationsLeft (p : Phase) (turn : BitVec 2) : Nat :=
  if p.toNat = 0 then 0
  else if p.toNat ≤ 4 then 23 - p.toNat - turn.toNat
  else if p.toNat ≤ 13 then 22 - p.toNat
  else if p.toNat = 14 then 8 - turn.toNat
  else 20 - p.toNat

/-- Position `(q, m)` is one operation further in the tick than `(p, n)`: no earlier phase, or P0 after P19. -/
abbrev NextPosition (p : Phase) (n : BitVec 2) (q : Phase) (m : BitVec 2) : Prop :=
  operationsLeft q m + 1 = operationsLeft p n ∧ (p.toNat ≤ q.toNat ∧ q.toNat ≤ 19 ∨ p = 19#5 ∧ q = 0#5)

/-- `FREQ.UPD k` ends with the sequencer's move for channel `k`; before that it leaves the sequencer where it is. -/
theorem freqUpd_afterFreq {k : FreqCh} (h : exec (.freqUpd k) s = .next t) :
    ∃ u, t = afterFreq k u ∧ u.phase = s.phase ∧ u.request = s.request ∧ u.inputs = s.inputs := by
  obtain ⟨u, hbody, hafter⟩ := (andThen_eq_next _ _ _).1 h
  cases hafter
  split at hbody
  · obtain ⟨_, _, _, _, _, _, rfl, -⟩ := writeFreq_writes hbody
    exact ⟨_, rfl, rfl, rfl, rfl⟩
  · cases hbody
    exact ⟨_, rfl, rfl, rfl, rfl⟩

/-- Every operation of P1 to P19 takes the tick one position further, invokes nothing, and leaves the environment's
inputs alone, but for the samples the scan of P1 takes. -/
theorem sequencer_advances {p : Phase} {i : Instr} (hp : s.phase = p) (hp0 : p ≠ 0#5) (hp31 : p ≠ 31#5)
    (hrun : SequencerRuns p i) (h : exec i s = .next t) :
    NextPosition p (turnOf i) t.phase t.turn ∧ t.request = s.request ∧ (p ≠ 1#5 → t.inputs = s.inputs) := by
  cases hrun with
  | tick => exact absurd rfl hp0
  | muxScan =>
    obtain ⟨_, _, _, _, _, rfl⟩ := muxScan_writes h
    exact ⟨(by decide : NextPosition 1 0 2 0), rfl, fun hne => absurd rfl hne⟩
  | debLoad =>
    obtain ⟨_, rfl⟩ := debLoad_writes h
    exact ⟨(by decide : NextPosition 2 0 3 0), rfl, fun _ => rfl⟩
  | toggle i hi =>
    obtain ⟨_, _, _, _, _, _, _, rfl, -⟩ := toggle_writes hi h
    rw [turnOf_toggle hi]
    exact ⟨(by decide : NextPosition 3 0 4 0), rfl, fun _ => rfl⟩
  | tuneDec =>
    obtain ⟨_, _, rfl, -⟩ := tuneDec_writes h
    exact ⟨(hp ▸ by decide : NextPosition 4 0 s.phase 1), rfl, fun _ => rfl⟩
  | tuneInc =>
    obtain ⟨_, _, rfl, -⟩ := tuneInc_writes h
    exact ⟨(by decide : NextPosition 4 1 5 0), rfl, fun _ => rfl⟩
  | gateMute =>
    obtain ⟨_, _, _, _, _, _, rfl, -⟩ := gateMute_writes h
    exact ⟨(by decide : NextPosition 5 0 6 0), rfl, fun _ => rfl⟩
  | filtNext =>
    obtain ⟨_, _, _, rfl, -⟩ := filtNext_writes h
    exact ⟨(by decide : NextPosition 6 0 7 0), rfl, fun _ => rfl⟩
  | wfDefault =>
    obtain ⟨_, _, rfl, -⟩ := wfDefault_writes h
    exact ⟨(by decide : NextPosition 7 0 8 0), rfl, fun _ => rfl⟩
  | gateRestore =>
    obtain ⟨_, _, _, _, _, _, _, rfl, -⟩ := gateRestore_writes h
    exact ⟨(by decide : NextPosition 8 0 9 0), rfl, fun _ => rfl⟩
  | wfNext =>
    obtain ⟨_, _, _, rfl, -⟩ := wfNext_writes h
    exact ⟨(by decide : NextPosition 8 0 9 0), rfl, fun _ => rfl⟩
  | wfPot =>
    obtain ⟨_, _, rfl, -⟩ := wfPot_writes h
    exact ⟨(by decide : NextPosition 9 0 10 0), rfl, fun _ => rfl⟩
  | o3Next =>
    obtain ⟨_, _, _, _, rfl, -⟩ := o3Next_writes h
    exact ⟨(by decide : NextPosition 10 0 11 0), rfl, fun _ => rfl⟩
  | o3Cv =>
    obtain ⟨_, _, _, rfl, -⟩ := o3Cv_writes h
    exact ⟨(by decide : NextPosition 11 0 12 0), rfl, fun _ => rfl⟩
  | ctrlWr =>
    obtain ⟨_, _, _, _, rfl, -⟩ := ctrlWr_writes h
    exact ⟨(by decide : NextPosition 12 0 13 0), rfl, fun _ => rfl⟩
  | fmodeWr =>
    obtain ⟨_, _, _, rfl, -⟩ := fmodeWr_writes h
    exact ⟨(by decide : NextPosition 13 0 14 0), rfl, fun _ => rfl⟩
  | freqUpd k =>
    obtain ⟨u, rfl, hphase, hreq, hin⟩ := freqUpd_afterFreq h
    rw [hp] at hphase
    cases k with
    | one => exact ⟨(hphase ▸ by decide : NextPosition 14 0 u.phase 1), hreq, fun _ => hin⟩
    | two => exact ⟨(hphase ▸ by decide : NextPosition 14 1 u.phase 2), hreq, fun _ => hin⟩
    | three => exact ⟨(by decide : NextPosition 14 2 15 0), hreq, fun _ => hin⟩
  | pwUpd =>
    obtain ⟨_, _, _, _, rfl, -⟩ := pwUpd_writes h
    exact ⟨(by decide : NextPosition 15 0 16 0), rfl, fun _ => rfl⟩
  | fcUpd =>
    obtain ⟨_, _, _, _, rfl, -⟩ := fcUpd_writes h
    exact ⟨(by decide : NextPosition 16 0 17 0), rfl, fun _ => rfl⟩
  | resUpd =>
    obtain ⟨_, _, _, _, rfl, -⟩ := resUpd_writes h
    exact ⟨(by decide : NextPosition 17 0 18 0), rfl, fun _ => rfl⟩
  | persist i hi =>
    rw [turnOf_persist hi]
    obtain ⟨-, rfl⟩ | ⟨_, _, _, -, rfl, -⟩ := persist_writes hi h
    · exact ⟨(by decide : NextPosition 18 0 19 0), rfl, fun _ => rfl⟩
    · exact ⟨(by decide : NextPosition 18 0 19 0), rfl, fun _ => rfl⟩
  | ledOut =>
    obtain ⟨_, _, rfl⟩ := ledOut_writes h
    exact ⟨(by decide : NextPosition 19 0 0 0), rfl, fun _ => rfl⟩
  | resetLoad => exact absurd rfl hp31

/-! ## Running a tick -/

theorem run_succ_of_step {M : Host.Core} {s t : M.State} (h : M.step s = .next t) (n : Nat) :
    M.run (n + 1) s = M.run n t := by
  simp only [Host.Core.run, h]

/-- An operation that invokes nothing and takes no sample leaves the block undisturbed. -/
theorem Undisturbed.congr (he : Undisturbed s) (hreq : t.request = s.request) (hin : t.inputs = s.inputs) :
    Undisturbed t := by
  obtain ⟨huninvoked, hnoReset, hanswers⟩ := he
  constructor
  · rwa [noCalls, hreq, hin]
  · rwa [noResets, hin]
  · rwa [converterAnswers, hin]

/-- A pending tick is taken at P0, whatever else arrives (R178). -/
theorem step_fromP0 (hs : SafeState s) (he : Undisturbed s) (hp : s.phase = 0#5) (hpending : s.irq.pending = true) :
    ∃ es t, step s = .next t ∧ SafeState t ∧ Undisturbed t ∧ t.phase = 1#5
      ∧ t.inputs = { s.inputs with events := es } := by
  obtain ⟨es, b, i, t, hu, hb, hrun, -, hexec, hstep⟩ := step_undisturbed hs he
  have hready : tickReady (arrived es b s) = true := by
    simp [tickReady, hp, hb hpending, hs.mask (by rw [hp]; decide)]
  rw [hp] at hrun
  cases hrun
  rw [exec, execTick, if_pos hready, tickEntry_eq] at hexec
  have hsafe := stepKeepsSafeStates s t hs hstep
  cases hexec
  exact ⟨es, _, hstep, hsafe, hu.congr rfl rfl, rfl, rfl⟩

/-- The scan of P1 takes the eleven samples that come next (R93). -/
theorem step_fromP1 (hs : SafeState s) (he : Undisturbed s) (hp : s.phase = 1#5) :
    ∃ t, step s = .next t ∧ SafeState t ∧ Undisturbed t ∧ t.phase = 2#5 ∧ t.turn = 0#2
      ∧ t.inputs.taken = s.inputs.taken + 11
      ∧ t.x = ⟨sampleAt s 0, sampleAt s 1, sampleAt s 2, sampleAt s 3, sampleAt s 4, sampleAt s 5, sampleAt s 6,
        sampleAt s 7, sampleAt s 8, sampleAt s 9, sampleAt s 10⟩ := by
  obtain ⟨es, b, i, t, hu, -, hrun, -, hexec, hstep⟩ := step_undisturbed hs he
  rw [hp] at hrun
  cases hrun
  rw [muxScan_answered hu.answers, afterScan_inputOrder, goto_eq] at hexec
  have hsafe := stepKeepsSafeStates s t hs hstep
  cases hexec
  have hanswers : converterAnswers { s with inputs := inputsAfter s 11 } = true :=
    List.all_eq_true.2 fun a ha => List.all_eq_true.1 he.answers a (List.mem_of_mem_drop ha)
  exact ⟨_, hstep, hsafe, ⟨hu.uninvoked, hu.noReset, hanswers⟩, rfl, rfl, rfl, rfl⟩

/-- Where the scan of P1 is behind: P2 to P19, or P0 once a tick has validated the caches. -/
def ScanBehind (s : State) : Prop :=
  2 ≤ s.phase.toNat ∧ s.phase.toNat ≤ 19 ∨ s.phase = 0#5 ∧ s.flags.cachesValid = true

/-- A step from P2 to P19: one operation less is left, no sample is taken, and P0 is reached with the caches valid. -/
theorem step_afterScan (hs : SafeState s) (he : Undisturbed s) (hp : 2 ≤ s.phase.toNat ∧ s.phase.toNat ≤ 19) :
    ∃ t, step s = .next t ∧ SafeState t ∧ Undisturbed t ∧ ScanBehind t
      ∧ operationsLeft t.phase t.turn + 1 = operationsLeft s.phase s.turn
      ∧ t.x = s.x ∧ t.inputs.taken = s.inputs.taken := by
  obtain ⟨es, b, i, t, hu, -, hrun, hturn, hexec, hstep⟩ := step_undisturbed hs he
  have hp0 : s.phase ≠ 0#5 := by intro h; simp [h] at hp
  have hp1 : s.phase ≠ 1#5 := by intro h; simp [h] at hp
  have hp31 : s.phase ≠ 31#5 := by intro h; simp [h] at hp
  obtain ⟨⟨hleft, hphase⟩, hreq, hin⟩ := sequencer_advances (s := arrived es b s) rfl hp0 hp31 hrun hexec
  have kept : RegistersKept (arrived es b s) t := sequencer_keeps_registers hp31 hrun hexec
  refine ⟨t, hstep, stepKeepsSafeStates s t hs hstep, hu.congr hreq (hin hp1), ?_, hturn ▸ hleft, kept.x hp1,
    by rw [hin hp1]⟩
  obtain ⟨hlater, hbound⟩ | ⟨hp19, ht0⟩ := hphase
  · exact .inl ⟨hp.1.trans hlater, hbound⟩
  · have hvalid : s.flags.cachesValid = true := hs.caches (by rw [hp19]; decide)
    exact .inr ⟨ht0, (kept.cachesValid (by rw [hp19]; decide)).trans hvalid⟩

theorem operationsLeft_pos {p : Phase} {n : BitVec 2} (hp : 1 ≤ p.toNat ∧ p.toNat ≤ 19) : 0 < operationsLeft p n := by
  revert p n; decide

/-- The operations left after the scan, one by one, lead back to P0 with the caches valid; the samples stay. -/
theorem run_afterScan (n : Nat) : ∀ s : State, SafeState s → Undisturbed s → ScanBehind s →
    operationsLeft s.phase s.turn = n →
    ∃ t, Sys2Proof.core.run n s = .next t ∧ SafeState t ∧ t.phase = 0#5 ∧ t.flags.cachesValid = true
      ∧ t.x = s.x ∧ t.inputs.taken = s.inputs.taken := by
  induction n with
  | zero =>
    intro s hs he hbehind hleft
    obtain ⟨hlow, hhigh⟩ | ⟨hp0, hvalid⟩ := hbehind
    · exact absurd hleft (operationsLeft_pos ⟨by omega, hhigh⟩).ne'
    · exact ⟨s, rfl, hs, hp0, hvalid, rfl, rfl⟩
  | succ n ih =>
    intro s hs he hbehind hleft
    obtain hp | ⟨hp0, -⟩ := hbehind
    · obtain ⟨u, hstep, hsafe, hu, hbehind, hless, hx, htaken⟩ := step_afterScan hs he hp
      obtain ⟨t, hrun, hend⟩ := ih u hsafe hu hbehind (by omega)
      exact ⟨t, (run_succ_of_step (M := Sys2Proof.core) hstep n).trans hrun, hx ▸ htaken ▸ hend⟩
    · rw [hp0] at hleft
      cases hleft

/-- Settles O59: the tick is taken, the inputs are scanned, and the other 21 operations lead back to P0, where a safe
state with valid caches owes nothing and has its waveform. -/
theorem tickCompletesInTwentyThreeSteps : Obligations.TickCompletesInTwentyThreeSteps := by
  intro s hs huninvoked hnoReset hanswers hp hpending
  obtain ⟨es, u, hentry, hsafe, hu, hp1, hin⟩ := step_fromP0 hs ⟨huninvoked, hnoReset, hanswers⟩ hp hpending
  obtain ⟨v, hscan, hsafe, hv, hp2, hturn, htaken, hx⟩ := step_fromP1 hsafe hu hp1
  have hbehind : ScanBehind v := .inl (by rw [hp2]; decide)
  obtain ⟨t, hrest, hsafe, hp0, hvalid, hx', htaken'⟩ :=
    run_afterScan 21 v hsafe hv hbehind (by rw [hp2, hturn]; rfl)
  obtain ⟨hctrl, hfilter⟩ := hsafe.idleClear ⟨hp0, hvalid⟩
  have hresync : t.flags.ctrlResync = false := by simpa [hctrl] using hsafe.resync
  have hsample (n : Nat) : sampleAt u n = sampleAt s n := by simp only [sampleAt, hin]
  have hrun : Sys2Proof.core.run 23 s = .next t :=
    calc Sys2Proof.core.run 23 s = Sys2Proof.core.run 22 u := run_succ_of_step (M := Sys2Proof.core) hentry 22
      _ = Sys2Proof.core.run 21 v := run_succ_of_step (M := Sys2Proof.core) hscan 21
      _ = .next t := hrest
  refine ⟨t, hrun, hp0, hctrl, hresync, hfilter, hvalid, hsafe.waveformSet (.inr hvalid), ?taken, ?samples⟩
  case taken => rw [htaken', htaken, hin]
  case samples => simp only [hx', hx, hsample]

end Sys2Proof.Machine
end

section
/-! The phases P3 to P11 (R131 to R143), each as one equation over the registers: the two helpers of R142 first, then
phase by phase the effect under its switch pattern and the plain advance without it. -/

namespace Sys2Proof.Machine

variable {s : State}

/-! ## The helpers that turn a transition into a flag (R142) -/

/-- The waveform is stored, and a control byte is owed if that changes it. -/
theorem setWaveform_eq (v : Byte) (s : State) :
    setWaveform v s =
      { s with
        synth := { s.synth with waveform := v }
        flags := { s.flags with ctrlDirty := s.flags.ctrlDirty || decide (v ≠ s.synth.waveform) } } := by
  by_cases h : v = s.synth.waveform
  · subst h; simp [setWaveform_same]
  · simp [setWaveform_new v s h, h]

/-- The mode is stored; a change owes a control byte, and a change to NONE a resync too. -/
theorem setO3_eq (m : BitVec 2) (s : State) :
    setO3 m s =
      { s with
        synth := { s.synth with oscillator3Mode := m }
        flags := { s.flags with
          ctrlDirty := s.flags.ctrlDirty || decide (m ≠ s.synth.oscillator3Mode)
          ctrlResync := s.flags.ctrlResync || (decide (m ≠ s.synth.oscillator3Mode) && decide (m = 0#2)) } } := by
  by_cases h : m = s.synth.oscillator3Mode
  · subst h; simp [setO3_same]
  · simp [setO3_new m s h, h]

/-! ## A phase: a body under a condition, then the advance -/

/-- The phase fires, `x` being what its body and the advance leave, where the condition holds in the words of the
statement, and elsewhere only advances. -/
theorem goto_ite {c p : Prop} [Decidable c] [Decidable p] (hcond : c ↔ p) {q : Phase} {u x : State}
    (hfires : p → goto q u = x) : goto q (if c then u else s) = if p then x else { s with phase := q, turn := 0 } := by
  by_cases hp : p
  · rw [if_pos hp, if_pos (hcond.2 hp), hfires hp]
  · rw [if_neg hp, if_neg (mt hcond.1 hp), goto_eq]

/-- The same for a phase whose body writes to the chip. -/
theorem andThen_goto_ite {c p : Prop} [Decidable c] [Decidable p] (hcond : c ↔ p) {q : Phase} {o : Res State}
    {x : State} (hfires : p → andThen o (fun t => .next (goto q t)) = .next x) :
    andThen (if c then o else .next s) (fun t => .next (goto q t)) =
      .next (if p then x else { s with phase := q, turn := 0 }) := by
  by_cases hp : p
  · rw [if_pos hp, if_pos (hcond.2 hp), hfires hp]
  · rw [if_neg hp, if_neg (mt hcond.1 hp), andThen_next, goto_eq]

/-! ## Tuning mode: P3 (R131) -/

/-- The compound of `TUNE.TOGGLE` and the advance to P4 leave `afterToggle`. -/
theorem goto_toggleTuning (s : State) : goto 4 (toggleTuning s) = afterToggle s := by
  unfold toggleTuning afterToggle
  cases hmode : s.tuning.mode with
  | true =>
    simp [hmode, consume_eq, setTuning, leaveTuning, saveWordMasked_eq, goto_eq, zeroExtend_sample, switchBit]
  | false =>
    by_cases ho3 : s.synth.oscillator3Mode = 0#2
    · have hsynth : { s.synth with oscillator3Mode := 0#2 } = s.synth := by rw [← ho3]
      simp [hmode, consume_eq, setTuning, enterTuning, ho3, hsynth, goto_eq, switchBit]
    · simp [hmode, consume_eq, setTuning, enterTuning, ho3, raiseCtrl_eq, setSynth, goto_eq, switchBit]

theorem toggleIf_eq {cond : Bool} {p : Prop} [Decidable p] (hcond : cond = true ↔ p) (s : State) :
    toggleIf cond s = .next (if p then afterToggle s else { s with phase := 4, turn := 0 }) :=
  congrArg _ (goto_ite hcond fun _ => goto_toggleTuning s)

/-- Settles O21: each row's condition is its pattern (O5). -/
theorem tuneToggleFiresOnItsVariants : Obligations.TuneToggleFiresOnItsVariants := by
  intro s
  obtain ⟨-, hA, hB, hM, -⟩ := switchPatternsMeanTheirConditions s
  have condA : toggleA s = true ↔ swdWord s &&& 0x2D = 0x05 := by rw [hA, toggleA, Bool.and_eq_true]
  have condB : toggleB s = true ↔ swdWord s &&& 0x29 = 0x21 := by rw [hB, toggleB, Bool.and_eq_true]
  have condM : toggleM s = true ↔ s.cfg.skewMirror = true ∧ swdWord s &&& 0x2C = 0x0C := by
    rw [hM, toggleM, Bool.and_eq_true, Bool.and_eq_true, and_assoc]
  refine ⟨toggleIf_eq ?_ s, toggleIf_eq condA s, toggleIf_eq condB s, toggleIf_eq condM s⟩
  rw [Bool.or_eq_true, Bool.or_eq_true, condA, condB, condM, or_assoc]

/-- Settles O22: a variant runs where its pattern matches, and there `TUNE.TOGGLE` fires too (O21). -/
theorem phaseThreeStepIsTuneToggle : Obligations.PhaseThreeStepIsTuneToggle := by
  intro s hev hreq hp hturn
  have hdec := decode_p3 s.cfg (swdWord s)
  obtain ⟨hany, hA, hB, hM⟩ := tuneToggleFiresOnItsVariants s
  rw [step_eq_exec_sequencer (arrive_nothing hev) hreq (by rw [hp, hturn]; exact hdec)]
  split_ifs with hfA hfB hfM
  · rw [hA, hany, if_pos hfA, if_pos (.inl hfA)]
  · rw [hB, hany, if_pos hfB, if_pos (.inr (.inl hfB))]
  · rw [hM, hany, if_pos hfM, if_pos (.inr (.inr hfM))]
  · rfl

/-! ## Tuning mode: P4 (R132, R133) -/

/-- One step down, clamped (R132): over the naturals the lower clamp is the truncated subtraction. -/
theorem offsetMoved_down (off : BitVec 10) : (offsetMoved off (-offStep)).toNat = min 613 (off.toNat - 1) := by
  simp only [offsetMoved, clamp, offMin, offMax, offStep, BitVec.toNat_ofNat]
  split_ifs <;> omega

theorem offsetMoved_up (off : BitVec 10) : (offsetMoved off offStep).toNat = min 613 (off.toNat + 1) := by
  simp only [offsetMoved, clamp, offMin, offMax, offStep, BitVec.toNat_ofNat]
  split_ifs <;> omega

/-- The offset moves by `d` under its switch's condition, `p` in the words of the statement. -/
theorem toNat_ite_offsetMoved {cond : Bool} {p : Prop} [Decidable p] (hcond : cond = true ↔ p) {off : BitVec 10}
    {d : Int} {n : Nat} (hmoved : (offsetMoved off d).toNat = n) :
    (if cond then offsetMoved off d else off).toNat = if p then n else off.toNat := by
  simp only [apply_ite BitVec.toNat, hmoved, hcond]

/-- Settles O23: with its word the offset moves by one within its bounds, else it stays. -/
theorem tuneStepsMoveTheOffsetWithinBounds : Obligations.TuneStepsMoveTheOffsetWithinBounds := by
  constructor
  · intro s
    obtain ⟨-, -, -, -, hword, -⟩ := switchPatternsMeanTheirConditions s
    exact ⟨_, rfl, toNat_ite_offsetMoved (by rw [hword, Bool.and_eq_true]) (offsetMoved_down _)⟩
  · intro s
    obtain ⟨-, -, -, -, -, hword, -⟩ := switchPatternsMeanTheirConditions s
    exact ⟨_, rfl, toNat_ite_offsetMoved (by rw [hword, Bool.and_eq_true]) (offsetMoved_up _)⟩

/-! ## The gate: P5 and P8 (R134, R137) -/

/-- The gate that is on is muted by one register write (R134). -/
theorem muteGate_gateOn (hgate : s.synth.gateOff = false) (hidle : driverIdle s = true) :
    muteGate s =
      .next (raiseCtrl (afterStore s.cfg.addr.sus susOff (setSynth { s.synth with gateOff := true } s))) := by
  have hstore := chipStore_idle s.cfg.addr.sus susOff (setSynth { s.synth with gateOff := true } s) hidle
  rw [muteGate, if_neg (by simp [hgate])]
  exact (andThen_eq_next ..).2 ⟨_, hstore, rfl⟩

/-- Settles O24: with its word the gate that is on goes off by one register write; a gate that is off stays. -/
theorem gateMuteSilencesOnce : Obligations.GateMuteSilencesOnce := by
  intro s hidle
  obtain ⟨-, -, -, -, -, -, hword, -⟩ := switchPatternsMeanTheirConditions s
  refine andThen_goto_ite (by rw [hword, Bool.and_eq_true]) fun _ => ?_
  split
  · next hoff => exact (andThen_eq_next ..).2 ⟨_, if_pos hoff, rfl⟩
  · next hon => exact (andThen_eq_next ..).2 ⟨_, muteGate_gateOn (Bool.eq_false_iff.2 hon) hidle, rfl⟩

/-- Settles O27: with its word the gate goes on by one register write. -/
theorem gateRestoreOpensTheGate : Obligations.GateRestoreOpensTheGate := by
  intro s hidle
  obtain ⟨-, -, -, -, -, -, -, -, hword, -⟩ := switchPatternsMeanTheirConditions s
  refine andThen_goto_ite (by rw [hword, Bool.and_eq_true, and_comm]) fun _ => ?_
  have hstore := chipStore_idle s.cfg.addr.sus s.cfg.susFull
    (setSynth { s.synth with gateOff := false } (consume (switchBit .waveform) s)) hidle
  exact (andThen_eq_next ..).2 ⟨_, (andThen_eq_next ..).2 ⟨_, hstore, rfl⟩, rfl⟩

/-! ## The filter type: P6 (R135) -/

/-- Settles O25: the type is two bits wide, so it advances modulo 4. -/
theorem filtNextAdvancesTheFilterType : Obligations.FiltNextAdvancesTheFilterType := by
  intro s
  obtain ⟨-, -, -, -, -, -, -, hword, -⟩ := switchPatternsMeanTheirConditions s
  have hnext : s.synth.filterType + 1 = BitVec.ofNat 2 ((s.synth.filterType.toNat + 1) % 4) := by
    generalize s.synth.filterType = f
    revert f; decide
  refine congrArg _ (goto_ite (by rw [hword, Bool.and_eq_true, Bool.not_eq_true']) fun _ => ?_)
  rw [← hnext]
  rfl

/-! ## The waveform: P7 to P9 (R136, R138, R139) -/

/-- Settles O26: PULSE is not NONE, so the call changes the register. -/
theorem wfDefaultReplacesNone : Obligations.WfDefaultReplacesNone := by
  intro s
  refine congrArg _ (goto_ite Iff.rfl fun hnone => ?_)
  rw [setWaveform_new _ s (by rw [hnone]; decide)]
  rfl

/-- `nextWaveform` as arithmetic on the code (R138). -/
theorem nextWaveform_toNat (w : Byte) :
    (nextWaveform w).toNat = if 0x80 < 2 * w.toNat then 0x10 else 2 * w.toNat := by
  revert w; decide

/-- Settles O28: the number given is the code `nextWaveform` forms. -/
theorem wfNextDoublesTheWaveform : Obligations.WfNextDoublesTheWaveform := by
  intro s n hn
  obtain ⟨-, -, -, -, -, -, -, -, -, hword, -⟩ := switchPatternsMeanTheirConditions s
  obtain rfl : n = nextWaveform s.synth.waveform := BitVec.eq_of_toNat_eq (hn.trans (nextWaveform_toNat _).symm)
  refine congrArg _ (goto_ite (by rw [hword, Bool.and_eq_true, Bool.not_eq_true', and_comm]) fun _ => ?_)
  rw [setWaveform_eq]
  rfl

/-- Leaving the waveform is setting it to itself, which is nothing at all (R142). -/
theorem ite_setWaveform (c : Prop) [Decidable c] (v : Byte) (s : State) :
    (if c then setWaveform v s else s) = setWaveform (if c then v else s.synth.waveform) s := by
  split
  · rfl
  · exact (setWaveform_same s).symm

/-- The bands read from the lowest up, for edges in any order (R139). -/
theorem potBand_eq (c : Config) (v : Sample) :
    potBand c v =
      if v.toNat ≤ c.wfTri.toNat ∧ v.toNat ≤ c.wfSaw.toNat ∧ v.toNat ≤ c.wfPulse.toNat then 0x80
      else if v.toNat ≤ c.wfSaw.toNat ∧ v.toNat ≤ c.wfPulse.toNat then 0x10
      else if v.toNat ≤ c.wfPulse.toNat then 0x20
      else 0x40 := by
  simp only [potBand, ← not_lt]
  by_cases hpulse : c.wfPulse.toNat < v.toNat
  · simp [hpulse]
  · by_cases hsaw : c.wfSaw.toNat < v.toNat
    · simp [hpulse, hsaw]
    · by_cases htri : c.wfTri.toNat < v.toNat
      · simp [hpulse, hsaw, htri]
      · simp [hpulse, hsaw, htri]

/-- Settles O29: above the floor the waveform given is the band's, at or below it the one held. -/
theorem wfPotSetsTheBand : Obligations.WfPotSetsTheBand := by
  intro s b hb
  have hband : (if wfFloor < s.x.aWF.toNat then potBand s.cfg s.x.aWF else s.synth.waveform) = b := by
    rw [hb, potBand_eq, ← ite_not]
    simp only [not_lt]
  rw [exec, execWfPot, ite_setWaveform, hband, setWaveform_eq, goto_eq]

/-! ## Oscillator 3: P10 and P11 (R140, R141) -/

/-- The next mode is another one, also from code 3, which is never held (R140). -/
theorem nextO3_cycle {m o : BitVec 2} (h : m.toNat = (o.toNat + 1) % 3) : m = nextO3 o ∧ m ≠ o := by
  revert m o; decide

/-- Settles O30: the mode given is the next one, and it is new. -/
theorem oscillatorThreeSwitchCyclesTheMode : Obligations.OscillatorThreeSwitchCyclesTheMode := by
  intro s m hm
  obtain ⟨-, -, -, -, -, -, -, -, -, -, hword, -⟩ := switchPatternsMeanTheirConditions s
  obtain ⟨rfl, hne⟩ := nextO3_cycle hm
  refine congrArg _ (goto_ite ?_ fun _ => ?_)
  · rw [hword, Bool.and_eq_true, Bool.and_eq_true, Bool.not_eq_true', Bool.not_eq_true', and_assoc]
  · rw [setO3_new _ (consume (switchBit .ringsync) s) hne]
    rfl

/-- In the dead zone of the CV the mode is set to itself, which is nothing at all (R141, R142). -/
theorem forceO3_eq (s : State) : forceO3 s = setO3 ((cvBand s.x.aRS).getD s.synth.oscillator3Mode) s := by
  unfold forceO3
  cases cvBand s.x.aRS with
  | some m => rfl
  | none => exact (setO3_same s).symm

/-- The mode after the bands of R141, `held` being the one before. -/
theorem cvBand_getD (v : Sample) (held : BitVec 2) :
    (cvBand v).getD held =
      if 751 ≤ v.toNat then 2#2 else if 301 ≤ v.toNat then 1#2 else if 101 ≤ v.toNat then held else 0#2 := by
  simp only [cvBand, apply_ite (Option.getD · held), Option.getD_some, Option.getD_none]
  rfl

theorem ite_setO3 (c : Prop) [Decidable c] (m : BitVec 2) (s : State) :
    (if c then s else setO3 m s) = setO3 (if c then s.synth.oscillator3Mode else m) s := by
  split
  · exact (setO3_same s).symm
  · rfl

/-- Settles O31: the mode given is the one held while tuning, else the band's. -/
theorem ringSyncCvForcesTheBand : Obligations.RingSyncCvForcesTheBand := by
  intro s m hm
  rw [← cvBand_getD] at hm
  rw [exec, execO3Cv, forceO3_eq, ite_setO3, ← hm, setO3_eq, goto_eq]

/-! ## What the transitions flag, and all three switches at once (R142, R143) -/

/-- Settles O32: the helpers by whether the value is new; no arm of `TUNE.TOGGLE` touches `ctrlResync`. -/
theorem transitionsRaiseTheirFlags : Obligations.TransitionsRaiseTheirFlags := by
  refine fun s => ⟨fun v => ?_, fun m => ?_, fun t h => ?_⟩
  · rfl
  · unfold setO3
    split_ifs <;> rfl
  · obtain ⟨_, _, _, _, _, _, _, rfl, -⟩ := toggle_writes rfl h
    rfl

/-- All three switches held and none marked (R143). -/
theorem swdWord_allFresh (s : State) : swdWord s &&& 0x3F = 0x07 ↔ ∀ x, fresh s x = true := by
  simp [and_eq_iff_bits, Fin.forall_fin_succ, swdWord_bits, forall_switch, fresh_iff]
  tauto

theorem afterToggle_mode (s : State) : (afterToggle s).tuning.mode = !s.tuning.mode := by
  unfold afterToggle
  cases s.tuning.mode <;> rfl

theorem afterToggle_held (s : State) (x : Switch) : held (afterToggle s) x = held s x := by
  unfold afterToggle
  split <;> rfl

theorem gateMute_notFresh (h : fresh s .ringsync = false) :
    exec .gateMute s = .next { s with phase := 6, turn := 0 } := by
  rw [exec, execGateMute, if_neg (by simp [h]), andThen_next, goto_eq]

/-- Settles O33: variant A fires and marks RINGSYNC, so P5 finds it no longer fresh; WAVEFORM is not marked. -/
theorem allThreeFreshTogglesAndDoesNotMute : Obligations.AllThreeFreshTogglesAndDoesNotMute := by
  intro s t hword h
  have hfresh := (swdWord_allFresh s).1 hword
  obtain ⟨-, hA, -⟩ := switchPatternsMeanTheirConditions s
  have hfires := hA.2 ⟨hfresh .filter, hfresh .ringsync⟩
  have hmarks (x : Switch) : ignored t x = (x == .filter || x == .ringsync) := by
    have hunmarked := ((fresh_iff s x).1 (hfresh x)).2
    rw [consumer_ignored .tuneToggle h, hunmarked]
    simp [toggleA, hfresh]
  obtain rfl : afterToggle s = t := by
    rw [(tuneToggleFiresOnItsVariants s).1, if_pos (.inl hfires)] at h
    exact Host.Outcome.next.inj h
  refine ⟨afterToggle_mode s, gateMute_notFresh (fresh_eq_false_of_ignored (hmarks .ringsync)), ?_⟩
  rw [fresh_iff, afterToggle_held]
  exact ⟨((fresh_iff s .waveform).1 (hfresh .waveform)).1, hmarks .waveform⟩

end Sys2Proof.Machine
end

section
/-! The phases P12 to P17 and P19 (R150 to R157), each as one equation over the registers: the bytes and values they
form as arithmetic on what they read, then phase by phase what is written, or the plain advance. -/

namespace Sys2Proof.Machine

variable {s : State}

/-! ## Bytes of fields (R67, R71 to R74) -/

theorem nibble_setWidth (n : BitVec 4) : n.setWidth 8 = 0#4 ++ n := by
  revert n; decide

theorem threeBits_setWidth (n : BitVec 3) : n.setWidth 8 = 0#5 ++ n := by
  revert n; decide

theorem nibbles_or (h l : BitVec 4) : (h.setWidth 8 <<< 4) ||| l.setWidth 8 = h ++ l := by
  revert h l; decide

/-- The control byte with its flag bits read one by one (R67). -/
theorem controlByte_eq (y : Synth) :
    controlByte y =
      effectiveWaveform y ||| (if y.oscillator3Mode = 2#2 then 0x04 else 0x00)
        ||| (if y.oscillator3Mode = 1#2 then 0x02 else 0x00) ||| (if y.gateOff = true then 0x00 else 0x01) := by
  have hring (m : BitVec 2) :
      (BitVec.ofBool (m = o3Ring)).setWidth 8 <<< 2 = if m = 2#2 then (0x04 : Byte) else 0x00 := by
    revert m; decide
  have hsync (m : BitVec 2) :
      (BitVec.ofBool (m = o3Sync)).setWidth 8 <<< 1 = if m = 1#2 then (0x02 : Byte) else 0x00 := by
    revert m; decide
  have hgate (g : Bool) : (BitVec.ofBool (!g)).setWidth 8 = if g = true then (0x00 : Byte) else 0x01 := by
    revert g; decide
  rw [controlByte, hring, hsync, hgate]

theorem modeByte_eq (c : Config) (t : BitVec 2) : modeByte c t = c.fmode[t.toNat] ||| (0#4 ++ c.modeLow) := by
  rw [modeByte, nibble_setWidth]

/-! ## Values of samples (R153 to R155) -/

theorem pulseWidthOf_toNat (v : Sample) : (pulseWidthOf v).toNat = max 160 (min 4095 (4 * v.toNat)) := by
  have hv := v.isLt
  simp only [pulseWidthOf, clamp, pwMin, pwMax, pwShift, BitVec.toNat_ofNat, BitVec.toNat_shiftLeft,
    BitVec.toNat_setWidth]
  split_ifs <;> omega

theorem cutoffOf_toNat (v : Sample) : (cutoffOf v).toNat = 2 * v.toNat := by
  have hv := v.isLt
  simp only [cutoffOf, BitVec.toNat_ofNat, BitVec.toNat_setWidth]
  omega

/-- A 10-bit sample divided by 64 is below 16, so the bound of R155 never cuts it. -/
theorem resonanceOf_toNat (v : Sample) : (resonanceOf v).toNat = v.toNat / 64 := by
  have hv := v.isLt
  simp only [resonanceOf, resShift, BitVec.toNat_ofNat, BitVec.toNat_ushiftRight, Nat.shiftRight_eq_div_pow]
  omega

/-! ## The control byte and the mode byte: P12 and P13 (R150, R151) -/

theorem writeControl_idle (hidle : driverIdle s = true) :
    writeControl s = .next
      (if s.flags.ctrlResync = true then
        afterStore s.cfg.addr.ctrl (controlByte s.synth) (afterStore s.cfg.addr.ctrl (effectiveWaveform s.synth) s)
      else afterStore s.cfg.addr.ctrl (controlByte s.synth) s) := by
  unfold writeControl
  split
  · exact chipStore2_idle _ _ _ _ _ hidle
  · exact chipStore_idle _ _ _ hidle

/-- Settles O34: `byte` is the control byte and `wfe` the re-arm byte; a write leaves the flags to be cleared. -/
theorem ctrlWrWritesTheControlByte : Obligations.CtrlWrWritesTheControlByte := by
  intro s wfe byte hidle hwfe hbyte
  obtain rfl : wfe = effectiveWaveform s.synth := hwfe
  obtain rfl : byte = controlByte s.synth := hbyte.trans (controlByte_eq s.synth).symm
  refine andThen_goto_ite Iff.rfl fun _ => ?_
  rw [writeControl_idle hidle]
  split <;> rfl

/-- Settles O36: `FMODE` of the filter type over `MODE_LOW` is the mode byte. -/
theorem fmodeWrWritesTheModeByte : Obligations.FmodeWrWritesTheModeByte := by
  intro s hidle
  refine andThen_goto_ite Iff.rfl fun _ => ?_
  rw [chipStore_idle _ _ _ hidle, modeByte_eq]
  rfl

/-! ## The frequency channels: P14 (R152) -/

theorem freqStale_iff (k : FreqCh) (s : State) :
    freqStale k s = true ↔ s.flags.cachesValid = false ∨ inputGet s.x (freqInput k) ≠ freqCache s.synth k
      ∨ s.flags.offsetChanged = true := by
  simp [freqStale, or_assoc]

/-- A stale channel takes the table's value, low byte first, and caches the raw sample. -/
theorem freqUpd_found {k : FreqCh} {v : FreqValue} (hidle : driverIdle s = true) (hstale : freqStale k s = true)
    (hv : s.cfg.tab[(inputGet s.x (freqInput k)).toNat + s.tuning.offset.toNat]? = some v) :
    exec (.freqUpd k) s = .next (afterFreq k
      { afterStore (freqHighAddr s.cfg k) (freqHigh v) (afterStore (freqLowAddr s.cfg k) (freqLow v) s) with
        synth := withFreqCache s.synth k (inputGet s.x (freqInput k)) }) := by
  rw [exec, execFreqUpd, if_pos hstale, writeFreq, (tableLookup_eq_next ..).2 hv, andThen_next,
    chipStore2_idle _ _ _ _ _ hidle]
  rfl

theorem freqUpd_past {k : FreqCh} (hstale : freqStale k s = true)
    (hpast : s.cfg.tab.length ≤ (inputGet s.x (freqInput k)).toNat + s.tuning.offset.toNat) :
    exec (.freqUpd k) s =
      .fault (.tableRange ((inputGet s.x (freqInput k)).toNat + s.tuning.offset.toNat)) := by
  rw [exec, execFreqUpd, if_pos hstale, writeFreq, tableLookup_past hpast]
  rfl

/-- What a channel does by its input: only the advance, or the lookup with its two outcomes. -/
theorem freqUpd_follows (k : FreqCh) (hidle : driverIdle s = true) :
    (s.flags.cachesValid = true → inputGet s.x (freqInput k) = freqCache s.synth k → s.flags.offsetChanged = false →
        exec (.freqUpd k) s = .next (afterFreq k s))
      ∧ (s.flags.cachesValid = false ∨ inputGet s.x (freqInput k) ≠ freqCache s.synth k
          ∨ s.flags.offsetChanged = true →
        (∀ v, s.cfg.tab[(inputGet s.x (freqInput k)).toNat + s.tuning.offset.toNat]? = some v →
            exec (.freqUpd k) s = .next (afterFreq k
              { afterStore (freqHighAddr s.cfg k) (freqHigh v) (afterStore (freqLowAddr s.cfg k) (freqLow v) s) with
                synth := withFreqCache s.synth k (inputGet s.x (freqInput k)) }))
          ∧ (s.cfg.tab.length ≤ (inputGet s.x (freqInput k)).toNat + s.tuning.offset.toNat →
            exec (.freqUpd k) s =
              .fault (.tableRange ((inputGet s.x (freqInput k)).toNat + s.tuning.offset.toNat)))) := by
  constructor
  · intro hvalid hsame hoff
    have hfollows : ¬freqStale k s = true := by simp [freqStale_iff, hvalid, hsame, hoff]
    rw [exec, execFreqUpd, if_neg hfollows, andThen_next]
  · rw [← freqStale_iff]
    exact fun hstale => ⟨fun _ => freqUpd_found hidle hstale, freqUpd_past hstale⟩

/-- Settles O37: the three channels, each with its own registers and its own move of the sequencer. -/
theorem freqUpdFollowsItsInput : Obligations.FreqUpdFollowsItsInput := fun _ hidle =>
  ⟨freqUpd_follows .one hidle, freqUpd_follows .two hidle, freqUpd_follows .three hidle⟩

/-! ## The other analog inputs: P15 to P17 (R153 to R155) -/

/-- A cached value is written where it is new or the caches are not valid, in the words of the statements. -/
theorem stale_iff {n : Nat} {valid : Bool} {new cached : BitVec n} :
    (!valid || new != cached) = true ↔ ¬(valid = true ∧ new = cached) := by
  simp [Decidable.imp_iff_not_or]

/-- Settles O38: the widths given are the values of the two phases, each written in its two parts. -/
theorem pulseWidthAndCutoffFollowTheirInputs : Obligations.PulseWidthAndCutoffFollowTheirInputs := by
  constructor
  · intro s p hidle hp
    have hpulse : pulseWidthOf s.x.aPW = p := BitVec.eq_of_toNat_eq ((pulseWidthOf_toNat _).trans hp.symm)
    rw [← ite_not, exec, execPwUpd, hpulse]
    refine andThen_goto_ite stale_iff fun _ => ?_
    rw [chipStore2_idle _ _ _ _ _ hidle, pulseHigh, nibble_setWidth]
    rfl
  · intro s c hidle hc
    have hcutoff : cutoffOf s.x.aFC = c := BitVec.eq_of_toNat_eq ((cutoffOf_toNat _).trans hc.symm)
    rw [← ite_not, exec, execFcUpd, hcutoff]
    refine andThen_goto_ite stale_iff fun _ => ?_
    rw [chipStore2_idle _ _ _ _ _ hidle, cutoffLow, threeBits_setWidth]
    rfl

theorem validateCaches_of_valid (h : s.flags.cachesValid = true) : validateCaches s = s := by
  have hflags : { s.flags with cachesValid := true } = s.flags := by rw [← h]
  rw [validateCaches, hflags]
  rfl

/-- Settles O39: the resonance is written over `RES_LOW` where it is new; caches that are valid already stay so. -/
theorem resUpdShiftsAndValidatesCaches : Obligations.ResUpdShiftsAndValidatesCaches := by
  intro s r hidle hr
  have hres : resonanceOf s.x.aRES = r := BitVec.eq_of_toNat_eq ((resonanceOf_toNat _).trans hr.symm)
  rw [exec, execResUpd, hres]
  by_cases hsame : s.flags.cachesValid = true ∧ r = s.synth.resonance
  · rw [if_pos hsame, if_neg (mt stale_iff.1 (not_not.2 hsame)), andThen_next,
      validateCaches_of_valid hsame.1, goto_eq]
  · rw [if_neg hsame, if_pos (stale_iff.2 hsame), chipStore_idle _ _ _ hidle, resonanceByte, nibbles_or]
    rfl

/-! ## The LED output: P19 (R157) -/

theorem fled_eq (t : BitVec 2) :
    fled t = if t = 0#2 then 0x01 else if t = 1#2 then 0x02 else if t = 2#2 then 0x04 else 0x05 := by
  revert t; decide

theorem ledOf_eq (tuning : Bool) (y : Synth) :
    ledOf tuning y =
      { byte := if tuning = true then 0xFF else waveformLeds y ||| ringLed y ||| fled y.filterType
        sync := tuning || decide (y.oscillator3Mode = o3Sync) } := by
  cases tuning <;> rfl

/-- Settles O40: the byte and the line given are those of `ledOf`. -/
theorem ledOutShowsTheState : Obligations.LedOutShowsTheState := by
  intro s b y hb hy
  have hled : ledOf s.tuning.mode s.synth = { byte := b, sync := y } := by
    rw [ledOf_eq, fled_eq, hb, hy]
    rfl
  rw [exec, execLedOut, hled]
  rfl

end Sys2Proof.Machine
end

section
/-! The register writes of a tick (R158): how many each operation issues, the most and the least a tick still issues
from where it stands, and that every operation keeps within both. -/

namespace Sys2Proof.Machine

variable {s t u : State} {i : Instr}

/-! ## The register writes of one operation -/

/-- Where `o` completes, its record shows `n` register writes more than that of `s`. -/
def Issues (n : Nat) (s : State) (o : Res State) : Prop := ∀ t, o = .next t → writesIn t.out = writesIn s.out + n

theorem issues_next (h : writesIn u.out = writesIn s.out) : Issues 0 s (.next u) := by
  rintro _ ⟨⟩
  exact h

/-- What is handed over before the writes plays no part. -/
theorem issues_andThen {α : Type} {n : Nat} {o : Res α} {f : α → Res State} (hf : ∀ v, Issues n s (f v)) :
    Issues n s (andThen o f) := by
  intro t h
  obtain ⟨v, -, hv⟩ := (andThen_eq_next _ _ _).1 h
  exact hf v t hv

theorem issues_followed {n : Nat} {o : Res State} {f : State → State} (ho : Issues n s o)
    (hf : ∀ t, (f t).out = t.out) : Issues n s (andThen o fun t => .next (f t)) := by
  intro t h
  obtain ⟨v, hv, hfv⟩ := (andThen_eq_next _ _ _).1 h
  cases hfv
  rw [hf, ho v hv]

theorem issues_ite {m n : Nat} {p : Prop} [Decidable p] {o e : Res State} (ho : Issues m s o) (he : Issues n s e) :
    Issues (if p then m else n) s (if p then o else e) := by
  split <;> assumption

/-- A phase whose body issues `n` writes under a condition, and then advances. -/
theorem issues_phase {n : Nat} {p : Prop} [Decidable p] {o : Res State} {f : State → State} (ho : Issues n s o)
    (hf : ∀ t, (f t).out = t.out) :
    Issues (if p then n else 0) s (andThen (if p then o else .next s) fun t => .next (f t)) :=
  issues_followed (issues_ite ho (issues_next rfl)) hf

theorem issues_chipStore (a : ChipAddr) (d : Byte) (h : u.out = s.out) : Issues 1 s (chipStore a d u) := by
  intro t ht
  obtain ⟨-, rfl⟩ := (chipStore_eq_next ..).1 ht
  rw [writesIn_afterStore, h]

theorem issues_chipStore2 (a : ChipAddr) (d : Byte) (b : ChipAddr) (e : Byte) (s : State) :
    Issues 2 s (chipStore2 a d b e s) := by
  intro t ht
  obtain ⟨-, rfl⟩ := (chipStore2_eq_next ..).1 ht
  rw [writesIn_afterStore, writesIn_afterStore]

theorem issues_muteGate (h : u.out = s.out) : Issues (if u.synth.gateOff then 0 else 1) s (muteGate u) :=
  issues_ite (issues_next (by rw [h])) (issues_followed (issues_chipStore _ _ h) fun _ => rfl)

theorem issues_writeControl (s : State) : Issues (if s.flags.ctrlResync then 2 else 1) s (writeControl s) :=
  issues_ite (issues_chipStore2 _ _ _ _ _) (issues_chipStore _ _ rfl)

theorem issues_writeFreq (k : FreqCh) (s : State) : Issues 2 s (writeFreq k s) :=
  issues_andThen fun _ => issues_followed (issues_chipStore2 _ _ _ _ _) fun _ => rfl

/-- Entering tuning mode records nothing, and leaving it a save (R131). -/
theorem writesIn_toggleTuning (s : State) : writesIn (toggleTuning s).out = writesIn s.out := by
  have hafter := congrArg (fun t => writesIn t.out) (goto_toggleTuning s)
  refine hafter.trans ?_
  unfold afterToggle
  split
  · exact writesIn_append _ _
  · rfl

/-- How many register writes an operation of the sequencer issues in state `s`, by its rule (R134, R137, R150 to
R155). -/
def writesOf (i : Instr) (s : State) : Nat :=
  match i with
  | .gateMute => if fresh s .waveform && fresh s .ringsync then (if s.synth.gateOff then 0 else 1) else 0
  | .gateRestore => if fresh s .waveform && s.synth.gateOff then 1 else 0
  | .ctrlWr => if s.flags.ctrlDirty then (if s.flags.ctrlResync then 2 else 1) else 0
  | .fmodeWr => if s.flags.filterDirty then 1 else 0
  | .freqUpd k => if freqStale k s then 2 else 0
  | .pwUpd => if !s.flags.cachesValid || pulseWidthOf s.x.aPW != s.synth.pulseWidth then 2 else 0
  | .fcUpd => if !s.flags.cachesValid || cutoffOf s.x.aFC != s.synth.filterCutoff then 2 else 0
  | .resUpd => if !s.flags.cachesValid || resonanceOf s.x.aRES != s.synth.resonance then 1 else 0
  | _ => 0

theorem writesOf_toggle (hi : savesOffset i = true) : writesOf i s = 0 := by
  cases i <;> cases hi <;> rfl

theorem writesOf_persist (hi : savesSettings i = true) : writesOf i s = 0 := by
  cases i <;> cases hi <;> rfl

/-- `writesOf` counts what the operation records: no operation issues a register write but the eight that store. -/
theorem sequencer_issues {p : Phase} (hans : converterAnswers s = true) (hrun : SequencerRuns p i) :
    Issues (writesOf i s) s (exec i s) := by
  cases hrun with
  | muxScan =>
    rw [muxScan_answered hans, afterScan_inputOrder]
    exact issues_next (writesIn_append _ _)
  | toggle i hi =>
    obtain ⟨b, hb⟩ := exec_toggle hi s
    rw [hb, writesOf_toggle hi]
    refine issues_next ?_
    cases b with
    | true => exact writesIn_toggleTuning s
    | false => rfl
  | gateMute => exact issues_phase (issues_muteGate rfl) fun _ => rfl
  | gateRestore => exact issues_phase (issues_followed (issues_chipStore _ _ rfl) fun _ => rfl) fun _ => rfl
  | ctrlWr => exact issues_phase (issues_followed (issues_writeControl s) fun _ => rfl) fun _ => rfl
  | fmodeWr => exact issues_phase (issues_followed (issues_chipStore _ _ rfl) fun _ => rfl) fun _ => rfl
  | freqUpd k => exact issues_phase (issues_writeFreq k s) fun _ => by cases k <;> rfl
  | pwUpd =>
    rw [writesOf, exec, execPwUpd]
    generalize pulseWidthOf s.x.aPW = p
    exact issues_phase (issues_followed (issues_chipStore2 _ _ _ _ _) fun _ => rfl) fun _ => rfl
  | fcUpd =>
    rw [writesOf, exec, execFcUpd]
    generalize cutoffOf s.x.aFC = c
    exact issues_phase (issues_followed (issues_chipStore2 _ _ _ _ _) fun _ => rfl) fun _ => rfl
  | resUpd => exact issues_phase (issues_followed (issues_chipStore _ _ rfl) fun _ => rfl) fun _ => rfl
  | persist i hi =>
    rw [exec_persist hi, execDebRelease_eq, writesOf_persist hi]
    refine issues_next ?_
    unfold afterPersist
    split
    · rfl
    · exact writesIn_append _ _
  | ledOut => exact issues_next (writesIn_append _ _)
  | tick => exact fun t h => by obtain rfl | rfl := tick_writes h <;> rfl
  | debLoad | tuneDec | tuneInc => exact issues_next rfl
  | filtNext => exact fun t h => by obtain ⟨_, _, _, rfl, -⟩ := filtNext_writes h; rfl
  | wfDefault => exact fun t h => by obtain ⟨_, _, rfl, -⟩ := wfDefault_writes h; rfl
  | wfNext => exact fun t h => by obtain ⟨_, _, _, rfl, -⟩ := wfNext_writes h; rfl
  | wfPot => exact fun t h => by obtain ⟨_, _, rfl, -⟩ := wfPot_writes h; rfl
  | o3Next => exact fun t h => by obtain ⟨_, _, _, _, rfl, -⟩ := o3Next_writes h; rfl
  | o3Cv => exact fun t h => by obtain ⟨_, _, _, rfl, -⟩ := o3Cv_writes h; rfl
  | resetLoad => exact fun t h => by obtain ⟨_, _, _, _, rfl, -⟩ := resetLoad_writes h; rfl

/-! ## What is owed stays owed until its phase -/

theorem setO3_owed (m : BitVec 2) (h : s.flags.ctrlDirty = true) : (setO3 m s).flags.ctrlDirty = true := by
  rw [setO3_eq, h]
  rfl

/-- A control byte owed stays owed until P12 writes it (R25, R150). -/
theorem sequencer_keeps_ctrlDirty (hidle : driverIdle s = true) (hp12 : s.phase ≠ 12#5) (hp31 : s.phase ≠ 31#5)
    (hrun : SequencerRuns s.phase i) (h : exec i s = .next t) (hd : s.flags.ctrlDirty = true) :
    t.flags.ctrlDirty = true := by
  by_cases hraiser : s.phase ∈ [3#5, 5#5, 7#5, 8#5, 9#5, 10#5, 11#5, 12#5]
  · generalize s.phase = p at hrun hraiser hp12
    cases hrun with
    | toggle i hi => obtain ⟨_, _, _, _, _, _, _, rfl, -, hkept, -⟩ := toggle_writes hi h; exact hkept hd
    | gateMute => obtain ⟨_, _, _, _, _, _, rfl, -, hkept, -⟩ := gateMute_writes h; exact hkept hd
    | wfDefault => obtain ⟨_, _, rfl, hkept, -⟩ := wfDefault_writes h; exact hkept hd
    | gateRestore =>
      rw [gateRestoreOpensTheGate s hidle] at h
      cases h
      split
      · rfl
      · exact hd
    | wfNext => obtain ⟨_, _, _, rfl, -, hkept, -⟩ := wfNext_writes h; exact hkept hd
    | wfPot => obtain ⟨_, _, rfl, hkept, -⟩ := wfPot_writes h; exact hkept hd
    | o3Next =>
      cases h
      split
      · exact setO3_owed _ hd
      · exact hd
    | o3Cv =>
      cases h
      split
      · exact hd
      · rw [forceO3_eq]
        exact setO3_owed _ hd
    | ctrlWr => exact absurd rfl hp12
    | _ => exact absurd hraiser (by decide)
  · exact ((sequencer_keeps_registers hp31 hrun h).ctrlDirty hraiser).trans hd

/-- A mode byte owed stays owed until P13 writes it (R25, R151). -/
theorem sequencer_keeps_filterDirty (hp13 : s.phase ≠ 13#5) (hp31 : s.phase ≠ 31#5)
    (hrun : SequencerRuns s.phase i) (h : exec i s = .next t) (hd : s.flags.filterDirty = true) :
    t.flags.filterDirty = true := by
  by_cases hp6 : s.phase = 6#5
  · rw [hp6] at hrun
    cases hrun
    rw [filtNextAdvancesTheFilterType s] at h
    cases h
    split
    · rfl
    · exact hd
  · exact ((sequencer_keeps_registers hp31 hrun h).filterDirty hp6 hp13).trans hd

/-! ## What a tick may still write, and what it must -/

/-- The most register writes of P14 to P17 with `n` operations of the tick left: two for each operation of P14 to P16,
the 8th to the 4th from the end, and one for P17, the 3rd. -/
def cachedLeft (n : Nat) : Nat := 2 * min n 8 - 5

/-- The most register writes a tick still issues with `n` operations left, `marked` saying whether WAVEFORM is ignored:
one of the gate, two of P12, one of P13, and those of the caches. P5, the 17th operation from the end, marks WAVEFORM if
it writes, and P8, the 14th, writes only if WAVEFORM is not marked, so the gate writes once (R134, R137). -/
def mayIssue (n : Nat) (marked : Bool) : Nat :=
  (if 17 ≤ n ∨ (14 ≤ n ∧ marked = false) then 1 else 0) + (if 10 ≤ n then 2 else 0) + (if 9 ≤ n then 1 else 0)
    + cachedLeft n

/-- The least register writes a tick still issues with `n` operations left: the bytes owed to P12 and P13, and while the
caches hold nothing all that they hold. -/
def mustIssue (n : Nat) (f : Flags) : Nat :=
  (if 10 ≤ n ∧ f.ctrlDirty = true then 1 else 0) + (if 9 ≤ n ∧ f.filterDirty = true then 1 else 0)
    + (if f.cachesValid then 0 else cachedLeft n)

theorem mayIssue_le (n : Nat) (m : Bool) : mayIssue n m ≤ 15 := by
  unfold mayIssue cachedLeft
  split_ifs <;> omega

/-- At P0 no tick owes anything. -/
theorem mustIssue_zero (f : Flags) : mustIssue 0 f = 0 := by
  simp [mustIssue, cachedLeft]

theorem mustIssue_everything {n : Nat} {f : Flags} (hn : 10 ≤ n) (hcaches : f.cachesValid = false)
    (hctrl : f.ctrlDirty = true) (hfilter : f.filterDirty = true) : mustIssue n f = 13 := by
  simp only [mustIssue, cachedLeft, hcaches, hctrl, hfilter, Bool.false_eq_true, and_true, if_false]
  split_ifs <;> omega

/-- An operation that writes nothing cannot raise what the tick may issue, as long as the mark on WAVEFORM stays. -/
theorem mayIssue_le_succ {n : Nat} {m m' : Bool} (hm : 14 ≤ n → m = true → m' = true) :
    mayIssue n m' ≤ mayIssue (n + 1) m := by
  unfold mayIssue cachedLeft
  grind

/-- Past P8 the mark on WAVEFORM plays no part. -/
theorem mayIssue_spend {n w k : Nat} {m m' : Bool} (hw : w ≤ k)
    (hk : n ≤ 12 ∧ k + mayIssue n true ≤ mayIssue (n + 1) true) : w + mayIssue n m' ≤ mayIssue (n + 1) m := by
  obtain ⟨hn, hk⟩ := hk
  have hmark {l : Nat} (hl : l ≤ 13) (b : Bool) : mayIssue l b = mayIssue l true := by
    have hgate (b : Bool) : ¬(17 ≤ l ∨ (14 ≤ l ∧ b = false)) := by omega
    rw [mayIssue, mayIssue, if_neg (hgate b), if_neg (hgate true)]
  rw [hmark (by omega) m', hmark (by omega) m]
  omega

/-- What is due to P12, to P13 and to the cached updates is written when its phase runs, and stays due until then. -/
theorem mustIssue_pay {n w : Nat} {f f' : Flags} (hctrl : 10 ≤ n → f.ctrlDirty = true → f'.ctrlDirty = true)
    (hfilter : 9 ≤ n → f.filterDirty = true → f'.filterDirty = true) (hcaches : 3 ≤ n → f'.cachesValid = f.cachesValid)
    (hctrlNow : n = 9 → f.ctrlDirty = true → 1 ≤ w) (hfilterNow : n = 8 → f.filterDirty = true → 1 ≤ w)
    (hcachesNow : f.cachesValid = false → cachedLeft (n + 1) ≤ w + cachedLeft n) :
    mustIssue (n + 1) f ≤ w + mustIssue n f' := by
  unfold mustIssue cachedLeft at *
  grind

/-! ## Every operation keeps within both -/

/-- The most register writes an operation issues in any state. -/
def mostWrites (i : Instr) : Nat :=
  match i with
  | .gateMute => 1
  | .gateRestore => 1
  | .ctrlWr => 2
  | .fmodeWr => 1
  | .freqUpd _ => 2
  | .pwUpd => 2
  | .fcUpd => 2
  | .resUpd => 1
  | _ => 0

theorem writesOf_le (i : Instr) (s : State) : writesOf i s ≤ mostWrites i := by
  unfold writesOf
  split
  case h_9 => exact Nat.zero_le _
  all_goals split_ifs <;> simp [mostWrites]

/-- The tick may issue `k` more register writes before an operation than after it, if the operation issues `k`. -/
theorem sequencer_mayIssue (hreq : s.request = none) (hp0 : s.phase ≠ 0#5) (hp31 : s.phase ≠ 31#5)
    (hrun : SequencerRuns s.phase i) (hturn : s.turn = turnOf i) (h : exec i s = .next t) :
    writesOf i s + mayIssue (operationsLeft t.phase t.turn) (ignored t .waveform) ≤
      mayIssue (operationsLeft s.phase s.turn) (ignored s .waveform) := by
  obtain ⟨⟨hleft, -⟩, -⟩ := sequencer_advances rfl hp0 hp31 hrun h
  have hmark : 14 ≤ operationsLeft t.phase t.turn → ignored s .waveform = true → ignored t .waveform = true := by
    intro hn
    obtain hkept | ⟨hp18, -⟩ := sequencer_keeps_ignored hreq hp31 hrun h
    · exact ignored_of_kept hkept
    · have hlast : operationsLeft 18#5 (turnOf i) = 2 := rfl
      rw [hp18] at hleft
      omega
  have hquiet := mayIssue_le_succ hmark
  rw [hturn, ← hleft]
  generalize operationsLeft t.phase t.turn = n at hleft hmark hquiet
  generalize s.phase = p at hrun hleft
  cases hrun with
  | toggle i hi => rwa [writesOf_toggle hi, Nat.zero_add]
  | persist i hi => rwa [writesOf_persist hi, Nat.zero_add]
  | gateMute =>
    by_cases hfires : (fresh s .waveform && fresh s .ringsync) = true
    · have hmarked : ignored t .waveform = true := by
        rw [consumer_ignored .gateMute h, hfires]
        simp
      obtain rfl : n = 16 := Nat.succ.inj hleft
      rw [hmarked]
      -- 15 may be issued before P5; with WAVEFORM marked, 14 after it
      exact Nat.add_le_add_right (writesOf_le .gateMute s) _
    · rwa [writesOf, if_neg hfires, Nat.zero_add]
  | gateRestore =>
    by_cases hfires : (fresh s .waveform && s.synth.gateOff) = true
    · have hunmarked : ignored s .waveform = false := ((fresh_iff s .waveform).1 (Bool.and_eq_true _ _ ▸ hfires).1).2
      obtain rfl : n = 13 := Nat.succ.inj hleft
      rw [hunmarked]
      -- with WAVEFORM not marked 15 may be issued before P8, 14 after it
      exact Nat.add_le_add_right (writesOf_le .gateRestore s) _
    · rwa [writesOf, if_neg hfires, Nat.zero_add]
  | ctrlWr => obtain rfl : n = 9 := Nat.succ.inj hleft; exact mayIssue_spend (writesOf_le _ s) (by decide)
  | fmodeWr => obtain rfl : n = 8 := Nat.succ.inj hleft; exact mayIssue_spend (writesOf_le _ s) (by decide)
  | freqUpd k =>
    refine mayIssue_spend (writesOf_le _ s) ?_
    cases k <;> cases hleft <;> decide
  | pwUpd => obtain rfl : n = 4 := Nat.succ.inj hleft; exact mayIssue_spend (writesOf_le _ s) (by decide)
  | fcUpd => obtain rfl : n = 3 := Nat.succ.inj hleft; exact mayIssue_spend (writesOf_le _ s) (by decide)
  | resUpd => obtain rfl : n = 2 := Nat.succ.inj hleft; exact mayIssue_spend (writesOf_le _ s) (by decide)
  | _ => simpa only [writesOf, Nat.zero_add] using hquiet

/-- Each phase writes what is due to it: P12 and P13 the byte owed, P14 to P17 what the caches do not hold. -/
theorem sequencer_pays {p : Phase} {n : Nat} (hrun : SequencerRuns p i) (hleft : n + 1 = operationsLeft p (turnOf i)) :
    (n = 9 → s.flags.ctrlDirty = true → 1 ≤ writesOf i s) ∧ (n = 8 → s.flags.filterDirty = true → 1 ≤ writesOf i s)
      ∧ (s.flags.cachesValid = false → cachedLeft (n + 1) ≤ writesOf i s + cachedLeft n) := by
  cases hrun with
  | toggle i hi =>
    rw [turnOf_toggle hi] at hleft
    obtain rfl : n = 19 := Nat.succ.inj hleft
    exact ⟨by simp, by simp, fun _ => Nat.le_add_left _ _⟩
  | persist i hi =>
    rw [turnOf_persist hi] at hleft
    obtain rfl : n = 1 := Nat.succ.inj hleft
    exact ⟨by simp, by simp, fun _ => Nat.zero_le _⟩
  | ctrlWr =>
    obtain rfl : n = 9 := Nat.succ.inj hleft
    refine ⟨fun _ hd => ?_, by simp, fun _ => Nat.le_add_left _ _⟩
    rw [writesOf, if_pos hd]
    split <;> decide
  | fmodeWr =>
    obtain rfl : n = 8 := Nat.succ.inj hleft
    exact ⟨by simp, fun _ hd => by rw [writesOf, if_pos hd], fun _ => Nat.le_add_left _ _⟩
  | freqUpd k =>
    have hstale (hv : s.flags.cachesValid = false) : writesOf (.freqUpd k) s = 2 := by simp [writesOf, freqStale, hv]
    cases k <;> cases hleft <;> exact ⟨by simp, by simp, fun hv => by rw [hstale hv]; decide⟩
  | pwUpd => cases hleft; exact ⟨by simp, by simp, fun hv => by simp [writesOf, hv, cachedLeft]⟩
  | fcUpd => cases hleft; exact ⟨by simp, by simp, fun hv => by simp [writesOf, hv, cachedLeft]⟩
  | resUpd => cases hleft; exact ⟨by simp, by simp, fun hv => by simp [writesOf, hv, cachedLeft]⟩
  | tick => cases hleft
  | resetLoad => cases hleft
  | _ => cases hleft; exact ⟨by simp, by simp, fun _ => by simp [cachedLeft]⟩

/-- What the tick must still write before an operation and not after it, the operation writes. -/
theorem sequencer_mustIssue (hidle : driverIdle s = true) (hp0 : s.phase ≠ 0#5) (hp31 : s.phase ≠ 31#5)
    (hrun : SequencerRuns s.phase i) (hturn : s.turn = turnOf i) (h : exec i s = .next t) :
    mustIssue (operationsLeft s.phase s.turn) s.flags ≤
      writesOf i s + mustIssue (operationsLeft t.phase t.turn) t.flags := by
  obtain ⟨⟨hleft, -⟩, -⟩ := sequencer_advances rfl hp0 hp31 hrun h
  obtain ⟨hctrlNow, hfilterNow, hcachesNow⟩ := sequencer_pays (s := s) hrun hleft
  have passed {p : Phase} {n : Nat} (hn : n < operationsLeft s.phase (turnOf i))
      (hpn : operationsLeft p (turnOf i) = n) : s.phase ≠ p := by
    rintro rfl
    omega
  rw [hturn, ← hleft]
  rw [← hleft] at passed
  exact mustIssue_pay
    (fun hn => sequencer_keeps_ctrlDirty hidle (passed (n := 10) (by omega) rfl) hp31 hrun h)
    (fun hn => sequencer_keeps_filterDirty (passed (n := 9) (by omega) rfl) hp31 hrun h)
    (fun hn => (sequencer_keeps_registers hp31 hrun h).cachesValid (passed (n := 3) (by omega) rfl))
    hctrlNow hfilterNow hcachesNow

/-! ## The register writes of a tick -/

/-- From `s` to `t` the tick issues no more than it might and no less than it must, counting what is left of either. -/
structure WritesWithin (s t : State) : Prop where
  atMost : writesIn t.out + mayIssue (operationsLeft t.phase t.turn) (ignored t .waveform) ≤
    writesIn s.out + mayIssue (operationsLeft s.phase s.turn) (ignored s .waveform)
  atLeast : writesIn s.out + mustIssue (operationsLeft s.phase s.turn) s.flags ≤
    writesIn t.out + mustIssue (operationsLeft t.phase t.turn) t.flags

theorem WritesWithin.refl (s : State) : WritesWithin s s := ⟨le_rfl, le_rfl⟩

theorem WritesWithin.trans (hsu : WritesWithin s u) (hut : WritesWithin u t) : WritesWithin s t :=
  ⟨hut.atMost.trans hsu.atMost, hsu.atLeast.trans hut.atLeast⟩

/-- A step inside a tick keeps within both bounds; what arrives before it touches neither. -/
theorem step_writesWithin (hs : SafeState s) (he : Undisturbed s) (hp : 1 ≤ s.phase.toNat ∧ s.phase.toNat ≤ 19)
    (h : step s = .next t) : WritesWithin s t := by
  obtain ⟨es, b, i, v, hu, -, hrun, hturn, hexec, hstep⟩ := step_undisturbed hs he
  obtain rfl : v = t := Host.Outcome.next.inj (hstep.symm.trans h)
  have hp0 : s.phase ≠ 0#5 := by intro h; simp [h] at hp
  have hp31 : s.phase ≠ 31#5 := by intro h; simp [h] at hp
  have hreq : s.request = none := request_of_noCalls he.uninvoked
  have hissued := sequencer_issues (s := arrived es b s) hu.answers hrun v hexec
  have hmay := sequencer_mayIssue (s := arrived es b s) hreq hp0 hp31 hrun hturn hexec
  have hmust := sequencer_mustIssue (s := arrived es b s) hs.pins hp0 hp31 hrun hturn hexec
  rw [show (arrived es b s).out = s.out from rfl] at hissued
  constructor
  · calc _ = writesIn s.out + (writesOf i (arrived es b s) + _) := by rw [hissued, Nat.add_assoc]
      _ ≤ _ := Nat.add_le_add_left hmay _
  · calc _ ≤ writesIn s.out + (writesOf i (arrived es b s) + _) := Nat.add_le_add_left hmust _
      _ = _ := by rw [hissued, Nat.add_assoc]

/-- Taking the tick writes nothing and owes nothing new (R178). -/
theorem step_fromP0_keeps (hs : SafeState s) (he : Undisturbed s) (hp : s.phase = 0#5) (h : step s = .next t) :
    t.out = s.out ∧ t.flags = s.flags := by
  obtain ⟨es, b, i, v, -, -, hrun, -, hexec, hstep⟩ := step_undisturbed hs he
  obtain rfl : v = t := Host.Outcome.next.inj (hstep.symm.trans h)
  rw [hp] at hrun
  cases hrun
  obtain rfl | rfl := tick_writes hexec <;> exact ⟨rfl, rfl⟩

/-- The operations after the scan keep within both bounds, one step after the other. -/
theorem run_writesWithin (n : Nat) : ∀ s : State, SafeState s → Undisturbed s → ScanBehind s →
    operationsLeft s.phase s.turn = n →
    ∃ t, Sys2Proof.core.run n s = .next t ∧ operationsLeft t.phase t.turn = 0 ∧ WritesWithin s t := by
  induction n with
  | zero => exact fun s _ _ _ hleft => ⟨s, rfl, hleft, .refl s⟩
  | succ n ih =>
    intro s hs he hbehind hleft
    obtain hp | ⟨hp0, -⟩ := hbehind
    · obtain ⟨u, hstep, hsafe, hu, hbehind, hless, -⟩ := step_afterScan hs he hp
      obtain ⟨t, hrun, hend, hwithin⟩ := ih u hsafe hu hbehind (by omega)
      have hfirst : WritesWithin s u := step_writesWithin hs he ⟨by omega, hp.2⟩ hstep
      exact ⟨t, (run_succ_of_step (M := Sys2Proof.core) hstep n).trans hrun, hend, hfirst.trans hwithin⟩
    · rw [hp0] at hleft
      cases hleft

/-- Settles O60: from P1 on the tick may issue 15 register writes, and must issue 13 if everything is owed; back at P0
nothing is left of either. -/
theorem tickIssuesAtMostFifteenWrites : Obligations.TickIssuesAtMostFifteenWrites := by
  intro s hs huninvoked hnoReset hanswers hp hpending
  have he : Undisturbed s := ⟨huninvoked, hnoReset, hanswers⟩
  obtain ⟨-, u, hentry, hsafe, hu, hp1, -⟩ := step_fromP0 hs he hp hpending
  obtain ⟨v, hscan, hsafe', hv, hp2, hturn, -⟩ := step_fromP1 hsafe hu hp1
  obtain ⟨t, hrest, hend, hwithin⟩ :=
    run_writesWithin 21 v hsafe' hv (.inl (by rw [hp2]; decide)) (by rw [hp2, hturn]; rfl)
  have hrun : Sys2Proof.core.run 23 s = .next t :=
    calc Sys2Proof.core.run 23 s = Sys2Proof.core.run 22 u := run_succ_of_step (M := Sys2Proof.core) hentry 22
      _ = Sys2Proof.core.run 21 v := run_succ_of_step (M := Sys2Proof.core) hscan 21
      _ = .next t := hrest
  obtain ⟨hout, hflags⟩ := step_fromP0_keeps hs he hp hentry
  obtain ⟨hmost, hleast⟩ := (step_writesWithin hsafe hu (by rw [hp1]; decide) hscan).trans hwithin
  rw [hout] at hmost hleast
  rw [hend, mustIssue_zero, hflags] at hleast
  refine ⟨t, hrun, ?most, fun hcaches hctrl hfilter => ?least⟩
  case most => exact (Nat.le_add_right _ _).trans (hmost.trans (Nat.add_le_add_left (mayIssue_le _ _) _))
  case least =>
    have hstart : 10 ≤ operationsLeft u.phase u.turn := by
      rw [hp1]
      exact (by decide : ∀ turn, 10 ≤ operationsLeft 1#5 turn) u.turn
    rwa [mustIssue_everything hstart hcaches hctrl hfilter] at hleast

end Sys2Proof.Machine
end

section
/-! Taking a tick and waiting for one (R178, R179): entry at P0, and why a tick event during a tick may as well arrive
after the operation as before it. Between them progress: in a safe state the machine goes on whatever the environment
does short of invoking an operation, while the converter answers (R171, R172). -/

namespace Sys2Proof.Machine

variable {s t u : State}

/-! ## Tick entry (R178) -/

theorem tickReady_iff (s : State) :
    tickReady s = true ↔ s.irq.pending = true ∧ s.irq.tickMasked = false ∧ s.phase = 0#5 := by
  simp [tickReady, and_assoc]

/-- Settles O20: the condition of entry, written out. -/
theorem tickEntersOrIdles : Obligations.TickEntersOrIdles := by
  intro s
  simp only [exec, execTick, tickReady_iff, tickEntry_eq]

/-! ## Progress from safe states (R171, R172) -/

/-- Whatever arrives short of an invocation lets the step go on, and leaves the converter's answers to come. -/
theorem arrive_uninvoked (hn : noCalls s = true) : ∃ u, arrive s = .next u ∧ u.inputs.adc = s.inputs.adc := by
  match hev : s.inputs.events with
  | [] => exact ⟨s, arrive_nothing hev, rfl⟩
  | .quiet :: es => exact ⟨_, arrive_quiet hev, rfl⟩
  | .tick :: es => exact ⟨_, arrive_tick hev, rfl⟩
  | .reset :: es => exact ⟨_, (arrive_eq_next s _).2 (.inr (.inr (.inr ⟨es, hev, rfl⟩))), rfl⟩
  | .invoke c :: es => simp [noCalls, hev] at hn

/-- Settles O58: what arrives leaves a safe state, whose position selects an operation, and that operation completes. -/
theorem safeStatesAlwaysStep : Obligations.SafeStatesAlwaysStep := by
  intro s hs hn hans
  obtain ⟨u, harr, hadc⟩ := arrive_uninvoked hn
  have hu : SafeState u := arrive_keeps_safe hs harr
  have hansu : converterAnswers u = true := by rwa [converterAnswers, hadc]
  have hreq : u.request = none := request_of_noCalls (arrive_keeps_noCalls hn harr)
  obtain ⟨i, hdec⟩ := decodeSeq_legal hu.sequencer u.cfg (swdWord u)
  obtain ⟨t, hexec⟩ := completes_sequencer hu hansu (decodeSeq_runs hdec)
  exact ⟨t, (step_eq_exec_sequencer harr hreq hdec).trans hexec⟩

/-! ## An outcome, and the same with a tick event arriving after it -/

/-- The same stop, or the same next state with `pending` set (R179). -/
def WithTick (o o' : Res State) : Prop := o' = onNext tickArrives o

theorem withTick_next (h : t = tickArrives s) : WithTick (.next s) (.next t) := congrArg _ h

theorem withTick_ite {p : Prop} [Decidable p] {o o' e e' : Res State} (ho : WithTick o o') (he : WithTick e e') :
    WithTick (if p then o else e) (if p then o' else e') := by
  split <;> assumption

/-- A value that does not come from the state, handed on. -/
theorem withTick_value {α : Type} (o : Res α) {f f' : α → Res State} (hf : ∀ a, WithTick (f a) (f' a)) :
    WithTick (andThen o f) (andThen o f') := by
  cases o with
  | next a => exact hf a
  | fault r => rfl
  | refused r => rfl

/-- One operation after the other. -/
theorem withTick_andThen {o o' : Res State} {f : State → Res State} (ho : WithTick o o')
    (hf : ∀ u, WithTick (f u) (f (tickArrives u))) : WithTick (andThen o f) (andThen o' f) := by
  obtain rfl := ho
  cases o with
  | next u => exact hf u
  | fault r => rfl
  | refused r => rfl

theorem withTick_followed {o o' : Res State} {f : State → State} (ho : WithTick o o')
    (hf : ∀ u, f (tickArrives u) = tickArrives (f u)) :
    WithTick (andThen o fun u => .next (f u)) (andThen o' fun u => .next (f u)) :=
  withTick_andThen ho fun u => withTick_next (hf u)

/-- A phase whose body is run under a condition, then left. -/
theorem withTick_phase {p : Prop} [Decidable p] {o o' : Res State} {f : State → State} (ho : WithTick o o')
    (hf : ∀ u, f (tickArrives u) = tickArrives (f u)) :
    WithTick (andThen (if p then o else .next s) fun u => .next (f u))
      (andThen (if p then o' else .next (tickArrives s)) fun u => .next (f u)) :=
  withTick_followed (withTick_ite ho (withTick_next rfl)) hf

/-- The same for a phase whose body only updates registers. -/
theorem withTick_update {p : Prop} [Decidable p] {q : Phase} {t' u' : State} (ht : t' = tickArrives t)
    (hu : u' = tickArrives u) :
    WithTick (.next (goto q (if p then t else u))) (.next (goto q (if p then t' else u'))) := by
  subst ht hu
  split <;> rfl

/-! ## Shared operations under a pending tick -/

theorem setWaveform_tickArrives (v : Byte) (s : State) :
    setWaveform v (tickArrives s) = tickArrives (setWaveform v s) := by
  rw [setWaveform_eq, setWaveform_eq]
  rfl

theorem setO3_tickArrives (m : BitVec 2) (s : State) : setO3 m (tickArrives s) = tickArrives (setO3 m s) := by
  rw [setO3_eq, setO3_eq]
  rfl

theorem forceO3_tickArrives (s : State) : forceO3 (tickArrives s) = tickArrives (forceO3 s) := by
  rw [forceO3_eq, forceO3_eq]
  exact setO3_tickArrives _ s

theorem afterToggle_tickArrives (s : State) : afterToggle (tickArrives s) = tickArrives (afterToggle s) := by
  rw [afterToggle, afterToggle, apply_ite tickArrives]
  rfl

theorem afterPersist_tickArrives (s : State) : afterPersist (tickArrives s) = tickArrives (afterPersist s) := by
  rw [afterPersist, afterPersist, apply_ite tickArrives]
  rfl

theorem withTick_toggleIf (cond : Bool) (s : State) : WithTick (toggleIf cond s) (toggleIf cond (tickArrives s)) := by
  rw [toggleIf_eq .rfl, toggleIf_eq .rfl, afterToggle_tickArrives]
  cases cond <;> rfl

theorem withTick_chipStore (a : ChipAddr) (d : Byte) (s : State) :
    WithTick (chipStore a d s) (chipStore a d (tickArrives s)) :=
  withTick_ite (withTick_next rfl) rfl

theorem withTick_chipStore2 (a : ChipAddr) (d : Byte) (b : ChipAddr) (e : Byte) (s : State) :
    WithTick (chipStore2 a d b e s) (chipStore2 a d b e (tickArrives s)) :=
  withTick_andThen (withTick_chipStore a d s) (withTick_chipStore b e)

/-- A read takes the same answer, and what goes on with it goes on under a pending tick. -/
theorem withTick_readAnalog {f : State × Sample → Res State}
    (hf : ∀ u v, WithTick (f (u, v)) (f (tickArrives u, v))) (s : State) :
    WithTick (andThen (readAnalog s) f) (andThen (readAnalog (tickArrives s)) f) := by
  by_cases hs : s.mux.settled = true
  · match ha : s.inputs.adc with
    | [] =>
      rw [readAnalog_free s hs ha, readAnalog_free (tickArrives s) hs ha]
      exact hf (sampleTaken [] s) _
    | .sample v :: rest =>
      rw [readAnalog_scripted s v rest hs ha, readAnalog_scripted (tickArrives s) v rest hs ha]
      exact hf (sampleTaken rest s) v
    | .never :: rest =>
      rw [readAnalog_never s rest hs ha, readAnalog_never (tickArrives s) rest hs ha]
      rfl
  · have hs : s.mux.settled = false := by simpa using hs
    rw [readAnalog_unsettled s hs, readAnalog_unsettled (tickArrives s) hs]
    rfl

theorem withTick_scanInputs (is : List Input) (s : State) :
    WithTick (scanInputs is s) (scanInputs is (tickArrives s)) := by
  induction is generalizing s with
  | nil => rfl
  | cons i rest ih => exact withTick_readAnalog (fun u v => ih _) (selectChannel (inputGet s.cfg.ch i) s)

theorem withTick_muteGate (s : State) : WithTick (muteGate s) (muteGate (tickArrives s)) :=
  withTick_ite (withTick_next rfl) (withTick_followed (withTick_chipStore _ _ _) fun _ => rfl)

theorem withTick_writeControl (s : State) : WithTick (writeControl s) (writeControl (tickArrives s)) :=
  withTick_ite (withTick_chipStore2 _ _ _ _ s) (withTick_chipStore _ _ s)

theorem withTick_writeFreq (k : FreqCh) (s : State) : WithTick (writeFreq k s) (writeFreq k (tickArrives s)) :=
  withTick_value (tableLookup s.cfg (inputGet s.x (freqInput k)) s.tuning.offset) fun _ =>
    withTick_followed (withTick_chipStore2 _ _ _ _ s) fun _ => rfl

/-! ## Every operation of a running tick -/

/-- The operations a running tick invokes by name (R80, log 11). -/
theorem named_withTick {i : Instr} (hi : NamedRuns s.cfg i) : WithTick (exec i s) (exec i (tickArrives s)) := by
  cases hi with
  | muxRda => exact withTick_readAnalog (fun _ _ => withTick_next rfl) s
  | muxRdd ch => exact withTick_readAnalog (fun _ _ => withTick_next rfl) (selectChannel ch s)
  | ftXlt raw off => exact withTick_value (tableLookup s.cfg raw off) fun _ => withTick_next rfl
  | store i hi =>
    obtain ⟨⟨a, d⟩, had⟩ := Option.isSome_iff_exists.1 hi
    rw [exec_command had, exec_command (s := tickArrives s) had]
    exact withTick_followed (withTick_chipStore a d s) fun _ => rfl
  | muxSel | debFresh | debConsume => exact withTick_next rfl

/-- The phases P1 to P19, one by one; only `TICK` at P0 reads `pending`, and only the load at P31 clears it. -/
theorem sequencer_withTick {i : Instr} (hin : insideTick s.phase = true) (hrun : SequencerRuns s.phase i) :
    WithTick (exec i s) (exec i (tickArrives s)) := by
  generalize hp : s.phase = p at hrun
  cases hrun with
  | tick | resetLoad => exact absurd (hp ▸ hin) (by decide)
  | muxScan => exact withTick_followed (withTick_scanInputs inputOrder s) fun _ => rfl
  | toggle i hi => cases i <;> cases hi <;> exact withTick_toggleIf _ s
  | gateMute => exact withTick_phase (withTick_muteGate _) fun _ => rfl
  | filtNext => exact withTick_update rfl rfl
  | wfDefault => exact withTick_update (setWaveform_tickArrives wfPulse s) rfl
  | gateRestore =>
    exact withTick_phase (withTick_followed (withTick_chipStore _ _ _) fun _ => rfl) fun _ => rfl
  | wfNext =>
    exact withTick_update
      (setWaveform_tickArrives (nextWaveform s.synth.waveform) (consume (switchBit .waveform) s)) rfl
  | wfPot => exact withTick_update (setWaveform_tickArrives (potBand s.cfg s.x.aWF) s) rfl
  | o3Next =>
    exact withTick_update
      (setO3_tickArrives (nextO3 s.synth.oscillator3Mode) (consume (switchBit .ringsync) s)) rfl
  | o3Cv => exact withTick_update rfl (forceO3_tickArrives s)
  | ctrlWr => exact withTick_phase (withTick_followed (withTick_writeControl s) fun _ => rfl) fun _ => rfl
  | fmodeWr => exact withTick_phase (withTick_followed (withTick_chipStore _ _ s) fun _ => rfl) fun _ => rfl
  | freqUpd k => exact withTick_phase (withTick_writeFreq k s) fun _ => by cases k <;> rfl
  | pwUpd => exact withTick_phase (withTick_followed (withTick_chipStore2 _ _ _ _ s) fun _ => rfl) fun _ => rfl
  | fcUpd => exact withTick_phase (withTick_followed (withTick_chipStore2 _ _ _ _ s) fun _ => rfl) fun _ => rfl
  | resUpd => exact withTick_phase (withTick_followed (withTick_chipStore _ _ s) fun _ => rfl) fun _ => rfl
  | persist i hi =>
    rw [exec_persist hi, exec_persist hi, execDebRelease_eq, execDebRelease_eq]
    exact withTick_next (afterPersist_tickArrives s)
  | debLoad | tuneDec | tuneInc | ledOut => exact withTick_next rfl

/-- Inside a tick what the fetched code selects is the phase's operation, or one the tick invokes by name. -/
theorem fetched_withTick {k : Code} {i : Instr} (hin : insideTick s.phase = true) (hfetch : fetchCode s = .next k)
    (hdec : decode s.cfg k = .ok i) : WithTick (exec i s) (exec i (tickArrives s)) := by
  cases hreq : s.request with
  | none =>
    rw [fetchCode_sequencer s hreq] at hfetch
    cases hfetch
    exact sequencer_withTick hin (decodeSeq_runs hdec)
  | some c =>
    rw [fetchCode_call s c hreq hin] at hfetch
    cases hfetch
    exact named_withTick (decodeCall_runs hdec)

/-- Settles O47: a quiet event leads to the state in which the operation runs, a tick event to the same state with
`pending` set; the same code is fetched from both, and its operation leaves `pending` alone. -/
theorem tickEventWaitsWhileATickRuns : Obligations.TickEventWaitsWhileATickRuns := by
  intro s t es hev hp0 hp31 h
  obtain ⟨u, k, i, harr, hfetch, hdec, hexec⟩ := (step_eq_next _ t).1 h
  rw [arrive_quiet (es := es) rfl] at harr
  cases harr
  have hin : insideTick s.phase = true := by simp [insideTick, hp0, hp31]
  have hwaits := fetched_withTick (s := dropEvent es s) hin hfetch hdec
  calc step s = exec i (tickArrives (dropEvent es s)) := step_eq_exec (arrive_tick hev) hfetch hdec
    _ = onNext tickArrives (exec i (dropEvent es s)) := hwaits
    _ = .next (tickArrives t) := congrArg (onNext tickArrives) hexec

end Sys2Proof.Machine
end

section
/-! Nothing but the tick touches the block (R203, R175): what becomes of an invocation, and what a step between ticks
can change. -/

namespace Sys2Proof.Machine

variable {s t u : State} {i : Instr}

/-! ## What arrives -/

theorem arrive_reset {es : List Event} (h : s.inputs.events = .reset :: es) :
    arrive s = .next (resetEntry (dropEvent es s)) :=
  (arrive_eq_next s _).2 (.inr (.inr (.inr ⟨es, h, rfl⟩)))

theorem step_invoke {c : Call} {es : List Event} (h : s.inputs.events = .invoke c :: es) :
    step s = .refused .reentry := by
  simp only [step, arrive, h, invocationArrives, andThen_refused]

/-- Whatever the event is, it is used up (log 8). -/
theorem arrive_events (h : arrive s = .next u) : u.inputs.events = s.inputs.events.tail := by
  obtain ⟨hev, rfl⟩ | ⟨es, hev, rfl⟩ | ⟨es, hev, rfl⟩ | ⟨es, hev, rfl⟩ := (arrive_eq_next s u).1 h
  · rw [hev, List.tail_nil]
  · rw [hev]; rfl
  · rw [hev]; rfl
  · rw [hev]; rfl

/-! ## The phases with one operation each, outside a tick and at its start -/

theorem SequencerRuns.atP0 (h : SequencerRuns 0#5 i) : i = .tick := by cases h; rfl

theorem SequencerRuns.atP1 (h : SequencerRuns 1#5 i) : i = .muxScan := by cases h; rfl

theorem SequencerRuns.atP31 (h : SequencerRuns 31#5 i) : i = .resetLoad := by cases h; rfl

/-! ## Invocations by name -/

theorem step_invokedOutsideTick {c : Call} (hev : s.inputs.events = []) (hreq : s.request = some c)
    (hout : insideTick s.phase = false) : step s = .refused .outsideTick := by
  rw [step, arrive_nothing hev, andThen_next, runNext, fetchCode_outside s c hreq hout, andThen_refused]

/-- An operation of the sequencer invokes nothing, and ends no invocation. -/
theorem sequencer_request (hrun : SequencerRuns s.phase i) (h : exec i s = .next t) : t.request = s.request := by
  by_cases hp0 : s.phase = 0#5
  · obtain rfl := (hp0 ▸ hrun).atP0
    obtain rfl | rfl := tick_writes h <;> rfl
  by_cases hp31 : s.phase = 31#5
  · obtain rfl := (hp31 ▸ hrun).atP31
    obtain ⟨_, _, _, _, rfl, -⟩ := resetLoad_writes h
    rfl
  obtain ⟨-, hreq, -⟩ := sequencer_advances rfl hp0 hp31 hrun h
  exact hreq

/-- After a step nothing stands invoked: the sequencer's operation found nothing invoked, an invoked one is done. -/
theorem step_request (h : step s = .next t) : t.request = none := by
  obtain ⟨u, i, -, hexec, ⟨hreq, hseq⟩ | ⟨-, -, hnamed⟩⟩ := step_runs h
  · exact (sequencer_request hseq hexec).trans hreq
  · obtain ⟨_, _, _, _, _, _, _, _, rfl, -⟩ := named_writes hnamed hexec
    rfl

/-! ## Between ticks -/

/-- At P0 only `TICK` can be fetched, at turn 0. -/
theorem fetched_atP0 {k : Code} (hp : s.phase = 0#5) (hfetch : fetchCode s = .next k)
    (hdec : decode s.cfg k = .ok i) : i = .tick ∧ s.turn = 0#2 := by
  cases hreq : s.request with
  | none =>
    rw [fetchCode_sequencer s hreq] at hfetch
    cases hfetch
    obtain rfl := (hp ▸ decodeSeq_runs hdec).atP0
    exact ⟨rfl, decodeSeq_turn hdec⟩
  | some c =>
    rw [fetchCode_outside s c hreq (by rw [hp]; rfl)] at hfetch
    cases hfetch

/-- A step from P0 without a reset event uses up the event, and moves at most the phase and `pending` (R178). -/
theorem step_atP0 (hr : s.inputs.events.head? ≠ some .reset) (hp : s.phase = 0#5) (h : step s = .next t) :
    t = { s with
      inputs := { s.inputs with events := s.inputs.events.tail }
      phase := t.phase
      irq := { s.irq with pending := t.irq.pending } } := by
  obtain ⟨u, k, i, harr, hfetch, hdec, hexec⟩ := (step_eq_next s t).1 h
  have htail := arrive_events harr
  obtain ⟨es, b, rfl, -⟩ := arrive_without_reset harr hr
  obtain rfl : es = s.inputs.events.tail := htail
  obtain ⟨rfl, hturn⟩ := fetched_atP0 hp hfetch hdec
  obtain rfl | rfl := tick_writes hexec
  · exact hturn ▸ rfl
  · rfl

/-- The sequencer comes to P1 from P0 only: a phase of a tick leads to a later one or back to P0, and the load to P0. -/
theorem sequencer_toP1 (hrun : SequencerRuns s.phase i) (h : exec i s = .next t) (hp : t.phase = 1#5) :
    s.phase = 0#5 := by
  by_contra hp0
  by_cases hp31 : s.phase = 31#5
  · obtain rfl := (hp31 ▸ hrun).atP31
    obtain ⟨_, _, _, _, rfl, -⟩ := resetLoad_writes h
    exact absurd hp (by decide : (0#5 : Phase) ≠ 1#5)
  obtain ⟨⟨-, ⟨hle, -⟩ | ⟨-, hidle⟩⟩, -⟩ := sequencer_advances rfl hp0 hp31 hrun h
  · have hp1 : s.phase = 1#5 := by
      rw [hp] at hle
      bv_omega
    obtain rfl := (hp1 ▸ hrun).atP1
    obtain ⟨_, _, _, _, _, rfl⟩ := muxScan_writes h
    exact absurd hp (by decide : (2#5 : Phase) ≠ 1#5)
  · exact absurd (hp.symm.trans hidle) (by decide)

theorem step_toP1 (hr : s.inputs.events.head? ≠ some .reset) (hreq : s.request = none) (h : step s = .next t)
    (hp : t.phase = 1#5) : s.phase = 0#5 := by
  obtain ⟨u, i, harr, hexec, hrun⟩ := step_runs h
  obtain ⟨hphase, hrequest⟩ : u.phase = s.phase ∧ u.request = s.request := by
    obtain ⟨es, b, rfl, -⟩ := arrive_without_reset harr hr
    exact ⟨rfl, rfl⟩
  obtain ⟨-, hseq⟩ | ⟨hinvoked, -⟩ := hrun
  · exact hphase.symm.trans (sequencer_toP1 hseq hexec hp)
  · exact absurd (hrequest.trans hreq) hinvoked

/-- Settles O48: an invocation is refused as it arrives, or where it stands outside a tick; the other three clauses are
about steps that go on. -/
theorem nothingOutsideTheTickTouchesTheBlock : Obligations.NothingOutsideTheTickTouchesTheBlock := by
  refine ⟨fun _ _ _ hev => step_invoke hev, fun s c hev hreq hp => ?_, fun _ _ h => step_request h,
    fun _ _ hr hp h => step_atP0 hr hp h, fun _ _ hr hreq h hp => step_toP1 hr hreq h hp⟩
  have hout : insideTick s.phase = false := by
    obtain hp | hp := hp <;> simp [insideTick, hp]
  exact step_invokedOutsideTick hev hreq hout

end Sys2Proof.Machine
end

section
/-! The load and the reset event (R190, R191), and the interrupt mask around a save (R204). -/

namespace Sys2Proof.Machine

variable {s t u : State}

/-! ## The settings byte and the offset word as numbers (R68, R190) -/

theorem unpackWaveform_eq (b : Byte) :
    unpackWaveform b =
      if b.toNat / 16 = 1 ∨ b.toNat / 16 = 2 ∨ b.toNat / 16 = 4 ∨ b.toNat / 16 = 8 then b &&& 0xF0 else 0x00 := by
  revert b; decide

theorem unpackFilter_eq (b : Byte) : unpackFilter b = BitVec.ofNat 2 (b.toNat / 4) := by
  revert b; decide

theorem unpackO3_eq (b : Byte) : unpackO3 b = if b.toNat % 4 = 3 then 0#2 else BitVec.ofNat 2 b.toNat := by
  revert b; decide

/-- The settings a byte loads: its fields, or the defaults beside the sentinel. -/
theorem loadSettings_eq (b : Byte) (y : Synth) :
    loadSettings b y =
      { y with
        waveform :=
          if b ≠ 0xFF ∧ (b.toNat / 16 = 1 ∨ b.toNat / 16 = 2 ∨ b.toNat / 16 = 4 ∨ b.toNat / 16 = 8) then b &&& 0xF0
          else 0x00
        filterType := if b = 0xFF then 0#2 else BitVec.ofNat 2 (b.toNat / 4)
        oscillator3Mode := if b = 0xFF ∨ b.toNat % 4 = 3 then 0#2 else BitVec.ofNat 2 b.toNat } := by
  by_cases hb : b = 255#8
  · simp [loadSettings, nvSentinel, hb, wfNone, ftLowPass, o3None]
  · simp [loadSettings, nvSentinel, hb, unpackWaveform_eq, unpackFilter_eq, unpackO3_eq]

/-- A word of 0x8000 and above is negative. -/
theorem offsetLoaded_toNat (w : BitVec 16) :
    (offsetLoaded w).toNat = if 32768 ≤ w.toNat then 0 else min 613 w.toNat := by
  have hint := BitVec.toInt_eq_toNat_cond w
  simp only [offsetLoaded, clamp, offMin, offMax, BitVec.toNat_ofNat]
  split_ifs at * <;> omega

theorem loadOffset_toNat (b : Byte) (w : BitVec 16) :
    (loadOffset b w).toNat = if b = 0xFF then 306 else if 32768 ≤ w.toNat then 0 else min 613 w.toNat := by
  rw [← offsetLoaded_toNat]
  unfold loadOffset
  split <;> simp_all [nvSentinel, offDefault]

/-! ## The load (R190) -/

/-- Settles O41: the fields the byte and the word load, and the fixed values of the rule's list. -/
theorem resetLoadRestoresTheStore : Obligations.ResetLoadRestoresTheStore := by
  rintro s b w o off word hb hword rfl rfl hoff
  obtain rfl : off = loadOffset b word := BitVec.eq_of_toNat_eq (hoff.trans (loadOffset_toNat b word).symm)
  simp only [exec, execResetLoad, clearRegisters_eq, setSynth, setTuning, setIrq, goto_eq, ← hb, ← hword,
    loadSettings_eq]

theorem resetLoad_unmasks (s : State) : ∃ t, exec .resetLoad s = .next t ∧ t.irq.tickMasked = false :=
  ⟨_, rfl, rfl⟩

/-! ## The reset event (R191, R177) -/

/-- A reset event is followed by the load in the same step (log 19). -/
theorem step_reset {es : List Event} (h : s.inputs.events = .reset :: es) :
    step s = exec .resetLoad (resetEntry (dropEvent es s)) :=
  step_eq_exec_sequencer (arrive_reset h) rfl rfl

/-- Reset entry keeps the configuration, the store, the inputs and the record of outputs, and nothing else (R187). -/
theorem resetEntry_congr (hcfg : u.cfg = s.cfg) (hbytes : u.mem.nvBytes = s.mem.nvBytes)
    (hwords : u.mem.nvWords = s.mem.nvWords) (hin : u.inputs = s.inputs) (hout : u.out = s.out) :
    resetEntry u = resetEntry s := by
  simp only [resetEntry, hcfg, hbytes, hwords, hin, hout]

/-- Settles O43: reset entry forgets the rest, and the load sets the phase and the masks and writes nothing outward. -/
theorem resetEventForgetsAllButTheStore : Obligations.ResetEventForgetsAllButTheStore := by
  constructor
  · intro s u es hev hin hcfg hbytes hwords hout
    have hentry : resetEntry (dropEvent es u) = resetEntry (dropEvent es s) :=
      resetEntry_congr hcfg hbytes hwords (by simp only [dropEvent, setInputs, hin]) hout
    rw [step_reset hev, step_reset (hin ▸ hev), hentry]
  · intro s es hev
    obtain ⟨t, hload⟩ : ∃ t, exec .resetLoad (resetEntry (dropEvent es s)) = .next t := ⟨_, rfl⟩
    refine ⟨t, (step_reset hev).trans hload, ?_⟩
    obtain ⟨_, _, _, _, rfl, -⟩ := resetLoad_writes hload
    exact ⟨rfl, rfl, rfl, rfl, rfl, rfl, rfl⟩

/-! ## The mask around a save (R204) -/

theorem saveByteMasked_mask (a : Nat) (b : Byte) (s : State) :
    (saveByteMasked a b s).irq.tickMasked = s.irq.tickMasked := by
  rw [saveByteMasked_eq]

theorem saveWordMasked_mask (a : Nat) (w : BitVec 16) (s : State) :
    (saveWordMasked a w s).irq.tickMasked = s.irq.tickMasked := by
  rw [saveWordMasked_eq]

theorem persist_mask {i : Instr} (hi : savesSettings i = true) (h : exec i s = .next t) :
    t.irq.tickMasked = s.irq.tickMasked := by
  obtain ⟨-, rfl⟩ | ⟨_, _, _, -, rfl, -⟩ := persist_writes hi h <;> rfl

theorem toggle_mask {i : Instr} (hi : savesOffset i = true) (h : exec i s = .next t) :
    t.irq.tickMasked = s.irq.tickMasked := by
  obtain ⟨_, _, _, _, _, _, _, rfl, -⟩ := toggle_writes hi h
  rfl

/-- Settles O45: the two saves, the two phases that save, the mask at reset, and the load. -/
theorem maskIsRestoredAroundSaves : Obligations.MaskIsRestoredAroundSaves := fun s =>
  ⟨rfl, rfl, fun a b => saveByteMasked_mask a b s, fun a w => saveWordMasked_mask a w s,
    ⟨_, rfl, persist_mask (i := .nvPersist) rfl rfl⟩, ⟨_, rfl, toggle_mask (i := .tuneToggle) rfl rfl⟩, fun _ => rfl,
    resetLoad_unmasks s⟩

end Sys2Proof.Machine
end
